-- ==== Sys2Proof/Word.lean ====
section
/-! DEFINITION. The word types of the DeityGB CPU core: bytes and 16-bit words (R5, R7).
Every register and memory value of the spec is an unsigned number of one of these two widths, and every
assignment reduces modulo 2^8 or 2^16, which is what `BitVec` arithmetic does. -/

namespace Sys2Proof

/-- An 8-bit value: a general register, a memory byte, an opcode byte (R5, R50). -/
abbrev Byte := BitVec 8

/-- A 16-bit value: PC, SP, a register pair, an address (R5). -/
abbrev Word := BitVec 16

end Sys2Proof
end

