-- ==== Sys2Proof/Config.lean ====
section
/-! DEFINITION. The implementation parameters of the core that are plain constants (R5, R59, R92, R122, R330).
R5 fixes every one of them ("none is left open as a model argument") and R13 allows no draw or oracle inside a
step, so this file holds no free value. -/

namespace Sys2Proof.Config

/-- The highest address of the 65,536-byte address space (R50, R5). -/
def topAddress : Nat := 0xFFFF

/-- The size of the address space in bytes (R5, R50). -/
def memorySize : Nat := 0x10000

/-- What a byte of memory holds until something writes it: all memory is 0x00 at power-on (R363, R61). -/
def memoryReset : Byte := 0x00

/-- The escape byte that selects the extended opcode space (R92). -/
def escapeByte : Byte := 0xCB

/-- The base of the page that `LDH` and `LD (C)` reach (R89). -/
def highPage : Word := 0xFF00

/-- The cost, in clock cycles, of a step taken while the core is Halted or Stopped (R122). -/
def suspendedCycles : Nat := 4

/-- The cost, in clock cycles, of the interrupt-entry seam action, reported to the host (R330). -/
def entryCycles : Nat := 20

end Sys2Proof.Config
end

