-- ==== Sys2Proof/Machine/Bits.lean ====
section
/-! DEFINITION. The bit-field, byte-order and sign-extension helpers of R6 and R7, used by the decoder and by
the instructions' meanings. -/

namespace Sys2Proof.Machine

/-- `hi(v)`: bits 15..8 of a 16-bit value (R7). -/
def hiByte (v : Word) : Byte := v.extractLsb' 8 8

/-- `lo(v)`: bits 7..0 of a 16-bit value (R7). -/
def loByte (v : Word) : Byte := v.extractLsb' 0 8

/-- `a:b`: the 16-bit value whose high byte is `a` and low byte is `b` (R7, R22). -/
def joinBytes (a b : Byte) : Word := a ++ b

/-- `sext_16(v)`: two's-complement sign extension of a byte to 16 bits (R7, R88). -/
def sext16 (v : Byte) : Word := v.signExtend 16

/-- The opcode byte whose bits 7..6, 5..3 and 2..0 are the fields x, y and z (R81, R91). -/
def fieldsXYZ (x : BitVec 2) (y z : BitVec 3) : Byte := x ++ y ++ z

/-- The opcode byte whose bits 7..6, 5..4, 3 and 2..0 are the fields x, p, q and z (R81). -/
def fieldsXPQZ (x p : BitVec 2) (q : BitVec 1) (z : BitVec 3) : Byte := x ++ p ++ q ++ z

/-- The field x of an opcode byte, bits 7..6 (R81, R91). -/
def fieldX (op : Byte) : BitVec 2 := op.extractLsb' 6 2

/-- The field y of an opcode byte, bits 5..3 (R81, R91). -/
def fieldY (op : Byte) : BitVec 3 := op.extractLsb' 3 3

/-- The field z of an opcode byte, bits 2..0 (R81, R91). -/
def fieldZ (op : Byte) : BitVec 3 := op.extractLsb' 0 3

end Sys2Proof.Machine
end

