-- ==== Sys2Proof/Syntax.lean ====
section
/-! DEFINITION. The instruction set: one constructor per row of spec/opcode_table.json (R93, R94, R133), 512 in
all: the 244 base instructions, the escape row PREFIX CB, the eleven illegal base opcodes and the 256 extended
instructions, in this order (so that every constructor with an operand has a small tag). An argument is the row's operand: d8, a8, e8 and STOP's ignored byte are one byte, d16 and a16 one
16-bit word (R87 to R90, R302). The map from constructor to mnemonic is LAWS.json. -/

namespace Sys2Proof

/-- One instruction of the base or the extended opcode space (R93, R94). -/
inductive Instr where
  /-- `NOP`, opcode 0x00 (R300). -/
  | nop
  /-- `LD BC,d16`, opcode 0x01 (R173). -/
  | ldBcD16 (d16 : Word)
  /-- `LD (BC),A`, opcode 0x02 (R147). -/
  | ldAtBcA
  /-- `INC BC`, opcode 0x03 (R230). -/
  | incBc
  /-- `INC B`, opcode 0x04 (R220). -/
  | incB
  /-- `DEC B`, opcode 0x05 (R222). -/
  | decB
  /-- `LD B,d8`, opcode 0x06 (R143). -/
  | ldBD8 (d8 : Byte)
  /-- `RLCA`, opcode 0x07 (R248). -/
  | rlca
  /-- `LD (a16),SP`, opcode 0x08 (R174). -/
  | ldAtA16Sp (a16 : Word)
  /-- `ADD HL,BC`, opcode 0x09 (R232). -/
  | addHlBc
  /-- `LD A,(BC)`, opcode 0x0A (R145). -/
  | ldAAtBc
  /-- `DEC BC`, opcode 0x0B (R231). -/
  | decBc
  /-- `INC C`, opcode 0x0C (R220). -/
  | incC
  /-- `DEC C`, opcode 0x0D (R222). -/
  | decC
  /-- `LD C,d8`, opcode 0x0E (R143). -/
  | ldCD8 (d8 : Byte)
  /-- `RRCA`, opcode 0x0F (R249). -/
  | rrca
  /-- `STOP`, opcode 0x10 (R302). -/
  | stop (x : Byte)
  /-- `LD DE,d16`, opcode 0x11 (R173). -/
  | ldDeD16 (d16 : Word)
  /-- `LD (DE),A`, opcode 0x12 (R148). -/
  | ldAtDeA
  /-- `INC DE`, opcode 0x13 (R230). -/
  | incDe
  /-- `INC D`, opcode 0x14 (R220). -/
  | incD
  /-- `DEC D`, opcode 0x15 (R222). -/
  | decD
  /-- `LD D,d8`, opcode 0x16 (R143). -/
  | ldDD8 (d8 : Byte)
  /-- `RLA`, opcode 0x17 (R250). -/
  | rla
  /-- `JR e8`, opcode 0x18 (R284). -/
  | jrE8 (e8 : Byte)
  /-- `ADD HL,DE`, opcode 0x19 (R232). -/
  | addHlDe
  /-- `LD A,(DE)`, opcode 0x1A (R146). -/
  | ldAAtDe
  /-- `DEC DE`, opcode 0x1B (R231). -/
  | decDe
  /-- `INC E`, opcode 0x1C (R220). -/
  | incE
  /-- `DEC E`, opcode 0x1D (R222). -/
  | decE
  /-- `LD E,d8`, opcode 0x1E (R143). -/
  | ldED8 (d8 : Byte)
  /-- `RRA`, opcode 0x1F (R251). -/
  | rra
  /-- `JR NZ,e8`, opcode 0x20 (R285). -/
  | jrNzE8 (e8 : Byte)
  /-- `LD HL,d16`, opcode 0x21 (R173). -/
  | ldHlD16 (d16 : Word)
  /-- `LD (HL+),A`, opcode 0x22 (R155). -/
  | ldAtHlIncA
  /-- `INC HL`, opcode 0x23 (R230). -/
  | incHl
  /-- `INC H`, opcode 0x24 (R220). -/
  | incH
  /-- `DEC H`, opcode 0x25 (R222). -/
  | decH
  /-- `LD H,d8`, opcode 0x26 (R143). -/
  | ldHD8 (d8 : Byte)
  /-- `DAA`, opcode 0x27 (R224). -/
  | daa
  /-- `JR Z,e8`, opcode 0x28 (R285). -/
  | jrZE8 (e8 : Byte)
  /-- `ADD HL,HL`, opcode 0x29 (R232). -/
  | addHlHl
  /-- `LD A,(HL+)`, opcode 0x2A (R156). -/
  | ldAAtHlInc
  /-- `DEC HL`, opcode 0x2B (R231). -/
  | decHl
  /-- `INC L`, opcode 0x2C (R220). -/
  | incL
  /-- `DEC L`, opcode 0x2D (R222). -/
  | decL
  /-- `LD L,d8`, opcode 0x2E (R143). -/
  | ldLD8 (d8 : Byte)
  /-- `CPL`, opcode 0x2F (R225). -/
  | cpl
  /-- `JR NC,e8`, opcode 0x30 (R285). -/
  | jrNcE8 (e8 : Byte)
  /-- `LD SP,d16`, opcode 0x31 (R173). -/
  | ldSpD16 (d16 : Word)
  /-- `LD (HL-),A`, opcode 0x32 (R157). -/
  | ldAtHlDecA
  /-- `INC SP`, opcode 0x33 (R230). -/
  | incSp
  /-- `INC (HL)`, opcode 0x34 (R221). -/
  | incAtHl
  /-- `DEC (HL)`, opcode 0x35 (R223). -/
  | decAtHl
  /-- `LD (HL),d8`, opcode 0x36 (R144). -/
  | ldAtHlD8 (d8 : Byte)
  /-- `SCF`, opcode 0x37 (R226). -/
  | scf
  /-- `JR C,e8`, opcode 0x38 (R285). -/
  | jrCE8 (e8 : Byte)
  /-- `ADD HL,SP`, opcode 0x39 (R232). -/
  | addHlSp
  /-- `LD A,(HL-)`, opcode 0x3A (R158). -/
  | ldAAtHlDec
  /-- `DEC SP`, opcode 0x3B (R231). -/
  | decSp
  /-- `INC A`, opcode 0x3C (R220). -/
  | incA
  /-- `DEC A`, opcode 0x3D (R222). -/
  | decA
  /-- `LD A,d8`, opcode 0x3E (R143). -/
  | ldAD8 (d8 : Byte)
  /-- `CCF`, opcode 0x3F (R227). -/
  | ccf
  /-- `LD B,B`, opcode 0x40 (R140). -/
  | ldBB
  /-- `LD B,C`, opcode 0x41 (R140). -/
  | ldBC
  /-- `LD B,D`, opcode 0x42 (R140). -/
  | ldBD
  /-- `LD B,E`, opcode 0x43 (R140). -/
  | ldBE
  /-- `LD B,H`, opcode 0x44 (R140). -/
  | ldBH
  /-- `LD B,L`, opcode 0x45 (R140). -/
  | ldBL
  /-- `LD B,(HL)`, opcode 0x46 (R141). -/
  | ldBAtHl
  /-- `LD B,A`, opcode 0x47 (R140). -/
  | ldBA
  /-- `LD C,B`, opcode 0x48 (R140). -/
  | ldCB
  /-- `LD C,C`, opcode 0x49 (R140). -/
  | ldCC
  /-- `LD C,D`, opcode 0x4A (R140). -/
  | ldCD
  /-- `LD C,E`, opcode 0x4B (R140). -/
  | ldCE
  /-- `LD C,H`, opcode 0x4C (R140). -/
  | ldCH
  /-- `LD C,L`, opcode 0x4D (R140). -/
  | ldCL
  /-- `LD C,(HL)`, opcode 0x4E (R141). -/
  | ldCAtHl
  /-- `LD C,A`, opcode 0x4F (R140). -/
  | ldCA
  /-- `LD D,B`, opcode 0x50 (R140). -/
  | ldDB
  /-- `LD D,C`, opcode 0x51 (R140). -/
  | ldDC
  /-- `LD D,D`, opcode 0x52 (R140). -/
  | ldDD
  /-- `LD D,E`, opcode 0x53 (R140). -/
  | ldDE
  /-- `LD D,H`, opcode 0x54 (R140). -/
  | ldDH
  /-- `LD D,L`, opcode 0x55 (R140). -/
  | ldDL
  /-- `LD D,(HL)`, opcode 0x56 (R141). -/
  | ldDAtHl
  /-- `LD D,A`, opcode 0x57 (R140). -/
  | ldDA
  /-- `LD E,B`, opcode 0x58 (R140). -/
  | ldEB
  /-- `LD E,C`, opcode 0x59 (R140). -/
  | ldEC
  /-- `LD E,D`, opcode 0x5A (R140). -/
  | ldED
  /-- `LD E,E`, opcode 0x5B (R140). -/
  | ldEE
  /-- `LD E,H`, opcode 0x5C (R140). -/
  | ldEH
  /-- `LD E,L`, opcode 0x5D (R140). -/
  | ldEL
  /-- `LD E,(HL)`, opcode 0x5E (R141). -/
  | ldEAtHl
  /-- `LD E,A`, opcode 0x5F (R140). -/
  | ldEA
  /-- `LD H,B`, opcode 0x60 (R140). -/
  | ldHB
  /-- `LD H,C`, opcode 0x61 (R140). -/
  | ldHC
  /-- `LD H,D`, opcode 0x62 (R140). -/
  | ldHD
  /-- `LD H,E`, opcode 0x63 (R140). -/
  | ldHE
  /-- `LD H,H`, opcode 0x64 (R140). -/
  | ldHH
  /-- `LD H,L`, opcode 0x65 (R140). -/
  | ldHL
  /-- `LD H,(HL)`, opcode 0x66 (R141). -/
  | ldHAtHl
  /-- `LD H,A`, opcode 0x67 (R140). -/
  | ldHA
  /-- `LD L,B`, opcode 0x68 (R140). -/
  | ldLB
  /-- `LD L,C`, opcode 0x69 (R140). -/
  | ldLC
  /-- `LD L,D`, opcode 0x6A (R140). -/
  | ldLD
  /-- `LD L,E`, opcode 0x6B (R140). -/
  | ldLE
  /-- `LD L,H`, opcode 0x6C (R140). -/
  | ldLH
  /-- `LD L,L`, opcode 0x6D (R140). -/
  | ldLL
  /-- `LD L,(HL)`, opcode 0x6E (R141). -/
  | ldLAtHl
  /-- `LD L,A`, opcode 0x6F (R140). -/
  | ldLA
  /-- `LD (HL),B`, opcode 0x70 (R142). -/
  | ldAtHlB
  /-- `LD (HL),C`, opcode 0x71 (R142). -/
  | ldAtHlC
  /-- `LD (HL),D`, opcode 0x72 (R142). -/
  | ldAtHlD
  /-- `LD (HL),E`, opcode 0x73 (R142). -/
  | ldAtHlE
  /-- `LD (HL),H`, opcode 0x74 (R142). -/
  | ldAtHlH
  /-- `LD (HL),L`, opcode 0x75 (R142). -/
  | ldAtHlL
  /-- `HALT`, opcode 0x76 (R301). -/
  | halt
  /-- `LD (HL),A`, opcode 0x77 (R142). -/
  | ldAtHlA
  /-- `LD A,B`, opcode 0x78 (R140). -/
  | ldAB
  /-- `LD A,C`, opcode 0x79 (R140). -/
  | ldAC
  /-- `LD A,D`, opcode 0x7A (R140). -/
  | ldAD
  /-- `LD A,E`, opcode 0x7B (R140). -/
  | ldAE
  /-- `LD A,H`, opcode 0x7C (R140). -/
  | ldAH
  /-- `LD A,L`, opcode 0x7D (R140). -/
  | ldAL
  /-- `LD A,(HL)`, opcode 0x7E (R141). -/
  | ldAAtHl
  /-- `LD A,A`, opcode 0x7F (R140). -/
  | ldAA
  /-- `ADD A,B`, opcode 0x80 (R196). -/
  | addAB
  /-- `ADD A,C`, opcode 0x81 (R196). -/
  | addAC
  /-- `ADD A,D`, opcode 0x82 (R196). -/
  | addAD
  /-- `ADD A,E`, opcode 0x83 (R196). -/
  | addAE
  /-- `ADD A,H`, opcode 0x84 (R196). -/
  | addAH
  /-- `ADD A,L`, opcode 0x85 (R196). -/
  | addAL
  /-- `ADD A,(HL)`, opcode 0x86 (R197). -/
  | addAAtHl
  /-- `ADD A,A`, opcode 0x87 (R196). -/
  | addAA
  /-- `ADC A,B`, opcode 0x88 (R199). -/
  | adcAB
  /-- `ADC A,C`, opcode 0x89 (R199). -/
  | adcAC
  /-- `ADC A,D`, opcode 0x8A (R199). -/
  | adcAD
  /-- `ADC A,E`, opcode 0x8B (R199). -/
  | adcAE
  /-- `ADC A,H`, opcode 0x8C (R199). -/
  | adcAH
  /-- `ADC A,L`, opcode 0x8D (R199). -/
  | adcAL
  /-- `ADC A,(HL)`, opcode 0x8E (R200). -/
  | adcAAtHl
  /-- `ADC A,A`, opcode 0x8F (R199). -/
  | adcAA
  /-- `SUB B`, opcode 0x90 (R202). -/
  | subB
  /-- `SUB C`, opcode 0x91 (R202). -/
  | subC
  /-- `SUB D`, opcode 0x92 (R202). -/
  | subD
  /-- `SUB E`, opcode 0x93 (R202). -/
  | subE
  /-- `SUB H`, opcode 0x94 (R202). -/
  | subH
  /-- `SUB L`, opcode 0x95 (R202). -/
  | subL
  /-- `SUB (HL)`, opcode 0x96 (R203). -/
  | subAtHl
  /-- `SUB A`, opcode 0x97 (R202). -/
  | subA
  /-- `SBC A,B`, opcode 0x98 (R205). -/
  | sbcAB
  /-- `SBC A,C`, opcode 0x99 (R205). -/
  | sbcAC
  /-- `SBC A,D`, opcode 0x9A (R205). -/
  | sbcAD
  /-- `SBC A,E`, opcode 0x9B (R205). -/
  | sbcAE
  /-- `SBC A,H`, opcode 0x9C (R205). -/
  | sbcAH
  /-- `SBC A,L`, opcode 0x9D (R205). -/
  | sbcAL
  /-- `SBC A,(HL)`, opcode 0x9E (R206). -/
  | sbcAAtHl
  /-- `SBC A,A`, opcode 0x9F (R205). -/
  | sbcAA
  /-- `AND B`, opcode 0xA0 (R208). -/
  | andB
  /-- `AND C`, opcode 0xA1 (R208). -/
  | andC
  /-- `AND D`, opcode 0xA2 (R208). -/
  | andD
  /-- `AND E`, opcode 0xA3 (R208). -/
  | andE
  /-- `AND H`, opcode 0xA4 (R208). -/
  | andH
  /-- `AND L`, opcode 0xA5 (R208). -/
  | andL
  /-- `AND (HL)`, opcode 0xA6 (R209). -/
  | andAtHl
  /-- `AND A`, opcode 0xA7 (R208). -/
  | andA
  /-- `XOR B`, opcode 0xA8 (R211). -/
  | xorB
  /-- `XOR C`, opcode 0xA9 (R211). -/
  | xorC
  /-- `XOR D`, opcode 0xAA (R211). -/
  | xorD
  /-- `XOR E`, opcode 0xAB (R211). -/
  | xorE
  /-- `XOR H`, opcode 0xAC (R211). -/
  | xorH
  /-- `XOR L`, opcode 0xAD (R211). -/
  | xorL
  /-- `XOR (HL)`, opcode 0xAE (R212). -/
  | xorAtHl
  /-- `XOR A`, opcode 0xAF (R211). -/
  | xorA
  /-- `OR B`, opcode 0xB0 (R214). -/
  | orB
  /-- `OR C`, opcode 0xB1 (R214). -/
  | orC
  /-- `OR D`, opcode 0xB2 (R214). -/
  | orD
  /-- `OR E`, opcode 0xB3 (R214). -/
  | orE
  /-- `OR H`, opcode 0xB4 (R214). -/
  | orH
  /-- `OR L`, opcode 0xB5 (R214). -/
  | orL
  /-- `OR (HL)`, opcode 0xB6 (R215). -/
  | orAtHl
  /-- `OR A`, opcode 0xB7 (R214). -/
  | orA
  /-- `CP B`, opcode 0xB8 (R217). -/
  | cpB
  /-- `CP C`, opcode 0xB9 (R217). -/
  | cpC
  /-- `CP D`, opcode 0xBA (R217). -/
  | cpD
  /-- `CP E`, opcode 0xBB (R217). -/
  | cpE
  /-- `CP H`, opcode 0xBC (R217). -/
  | cpH
  /-- `CP L`, opcode 0xBD (R217). -/
  | cpL
  /-- `CP (HL)`, opcode 0xBE (R218). -/
  | cpAtHl
  /-- `CP A`, opcode 0xBF (R217). -/
  | cpA
  /-- `RET NZ`, opcode 0xC0 (R289). -/
  | retNz
  /-- `POP BC`, opcode 0xC1 (R178). -/
  | popBc
  /-- `JP NZ,a16`, opcode 0xC2 (R282). -/
  | jpNzA16 (a16 : Word)
  /-- `JP a16`, opcode 0xC3 (R281). -/
  | jpA16 (a16 : Word)
  /-- `CALL NZ,a16`, opcode 0xC4 (R287). -/
  | callNzA16 (a16 : Word)
  /-- `PUSH BC`, opcode 0xC5 (R177). -/
  | pushBc
  /-- `ADD A,d8`, opcode 0xC6 (R198). -/
  | addAD8 (d8 : Byte)
  /-- `RST 00H`, opcode 0xC7 (R291). -/
  | rst00
  /-- `RET Z`, opcode 0xC8 (R289). -/
  | retZ
  /-- `RET`, opcode 0xC9 (R288). -/
  | ret
  /-- `JP Z,a16`, opcode 0xCA (R282). -/
  | jpZA16 (a16 : Word)
  /-- `CALL Z,a16`, opcode 0xCC (R287). -/
  | callZA16 (a16 : Word)
  /-- `CALL a16`, opcode 0xCD (R286). -/
  | callA16 (a16 : Word)
  /-- `ADC A,d8`, opcode 0xCE (R201). -/
  | adcAD8 (d8 : Byte)
  /-- `RST 08H`, opcode 0xCF (R291). -/
  | rst08
  /-- `RET NC`, opcode 0xD0 (R289). -/
  | retNc
  /-- `POP DE`, opcode 0xD1 (R178). -/
  | popDe
  /-- `JP NC,a16`, opcode 0xD2 (R282). -/
  | jpNcA16 (a16 : Word)
  /-- `CALL NC,a16`, opcode 0xD4 (R287). -/
  | callNcA16 (a16 : Word)
  /-- `PUSH DE`, opcode 0xD5 (R177). -/
  | pushDe
  /-- `SUB d8`, opcode 0xD6 (R204). -/
  | subD8 (d8 : Byte)
  /-- `RST 10H`, opcode 0xD7 (R291). -/
  | rst10
  /-- `RET C`, opcode 0xD8 (R289). -/
  | retC
  /-- `RETI`, opcode 0xD9 (R290). -/
  | reti
  /-- `JP C,a16`, opcode 0xDA (R282). -/
  | jpCA16 (a16 : Word)
  /-- `CALL C,a16`, opcode 0xDC (R287). -/
  | callCA16 (a16 : Word)
  /-- `SBC A,d8`, opcode 0xDE (R207). -/
  | sbcAD8 (d8 : Byte)
  /-- `RST 18H`, opcode 0xDF (R291). -/
  | rst18
  /-- `LDH (a8),A`, opcode 0xE0 (R152). -/
  | ldhAtA8A (a8 : Byte)
  /-- `POP HL`, opcode 0xE1 (R178). -/
  | popHl
  /-- `LD (C),A`, opcode 0xE2 (R154). -/
  | ldAtCA
  /-- `PUSH HL`, opcode 0xE5 (R177). -/
  | pushHl
  /-- `AND d8`, opcode 0xE6 (R210). -/
  | andD8 (d8 : Byte)
  /-- `RST 20H`, opcode 0xE7 (R291). -/
  | rst20
  /-- `ADD SP,e8`, opcode 0xE8 (R233). -/
  | addSpE8 (e8 : Byte)
  /-- `JP HL`, opcode 0xE9 (R283). -/
  | jpHl
  /-- `LD (a16),A`, opcode 0xEA (R150). -/
  | ldAtA16A (a16 : Word)
  /-- `XOR d8`, opcode 0xEE (R213). -/
  | xorD8 (d8 : Byte)
  /-- `RST 28H`, opcode 0xEF (R291). -/
  | rst28
  /-- `LDH A,(a8)`, opcode 0xF0 (R151). -/
  | ldhAAtA8 (a8 : Byte)
  /-- `POP AF`, opcode 0xF1 (R179). -/
  | popAf
  /-- `LD A,(C)`, opcode 0xF2 (R153). -/
  | ldAAtC
  /-- `DI`, opcode 0xF3 (R303). -/
  | di
  /-- `PUSH AF`, opcode 0xF5 (R177). -/
  | pushAf
  /-- `OR d8`, opcode 0xF6 (R216). -/
  | orD8 (d8 : Byte)
  /-- `RST 30H`, opcode 0xF7 (R291). -/
  | rst30
  /-- `LD HL,SP+e8`, opcode 0xF8 (R176). -/
  | ldHlSpE8 (e8 : Byte)
  /-- `LD SP,HL`, opcode 0xF9 (R175). -/
  | ldSpHl
  /-- `LD A,(a16)`, opcode 0xFA (R149). -/
  | ldAAtA16 (a16 : Word)
  /-- `EI`, opcode 0xFB (R304). -/
  | ei
  /-- `CP d8`, opcode 0xFE (R219). -/
  | cpD8 (d8 : Byte)
  /-- `RST 38H`, opcode 0xFF (R291). -/
  | rst38
  /-- `PREFIX CB`, opcode 0xCB (R306). -/
  | prefixCb
  /-- `(illegal 0xD3)`, opcode 0xD3 (R305). -/
  | illegalD3
  /-- `(illegal 0xDB)`, opcode 0xDB (R305). -/
  | illegalDB
  /-- `(illegal 0xDD)`, opcode 0xDD (R305). -/
  | illegalDD
  /-- `(illegal 0xE3)`, opcode 0xE3 (R305). -/
  | illegalE3
  /-- `(illegal 0xE4)`, opcode 0xE4 (R305). -/
  | illegalE4
  /-- `(illegal 0xEB)`, opcode 0xEB (R305). -/
  | illegalEB
  /-- `(illegal 0xEC)`, opcode 0xEC (R305). -/
  | illegalEC
  /-- `(illegal 0xED)`, opcode 0xED (R305). -/
  | illegalED
  /-- `(illegal 0xF4)`, opcode 0xF4 (R305). -/
  | illegalF4
  /-- `(illegal 0xFC)`, opcode 0xFC (R305). -/
  | illegalFC
  /-- `(illegal 0xFD)`, opcode 0xFD (R305). -/
  | illegalFD
  /-- `RLC B`, opcode CB 00 (R252). -/
  | rlcB
  /-- `RLC C`, opcode CB 01 (R252). -/
  | rlcC
  /-- `RLC D`, opcode CB 02 (R252). -/
  | rlcD
  /-- `RLC E`, opcode CB 03 (R252). -/
  | rlcE
  /-- `RLC H`, opcode CB 04 (R252). -/
  | rlcH
  /-- `RLC L`, opcode CB 05 (R252). -/
  | rlcL
  /-- `RLC (HL)`, opcode CB 06 (R253). -/
  | rlcAtHl
  /-- `RLC A`, opcode CB 07 (R252). -/
  | rlcA
  /-- `RRC B`, opcode CB 08 (R254). -/
  | rrcB
  /-- `RRC C`, opcode CB 09 (R254). -/
  | rrcC
  /-- `RRC D`, opcode CB 0A (R254). -/
  | rrcD
  /-- `RRC E`, opcode CB 0B (R254). -/
  | rrcE
  /-- `RRC H`, opcode CB 0C (R254). -/
  | rrcH
  /-- `RRC L`, opcode CB 0D (R254). -/
  | rrcL
  /-- `RRC (HL)`, opcode CB 0E (R255). -/
  | rrcAtHl
  /-- `RRC A`, opcode CB 0F (R254). -/
  | rrcA
  /-- `RL B`, opcode CB 10 (R256). -/
  | rlB
  /-- `RL C`, opcode CB 11 (R256). -/
  | rlC
  /-- `RL D`, opcode CB 12 (R256). -/
  | rlD
  /-- `RL E`, opcode CB 13 (R256). -/
  | rlE
  /-- `RL H`, opcode CB 14 (R256). -/
  | rlH
  /-- `RL L`, opcode CB 15 (R256). -/
  | rlL
  /-- `RL (HL)`, opcode CB 16 (R257). -/
  | rlAtHl
  /-- `RL A`, opcode CB 17 (R256). -/
  | rlA
  /-- `RR B`, opcode CB 18 (R258). -/
  | rrB
  /-- `RR C`, opcode CB 19 (R258). -/
  | rrC
  /-- `RR D`, opcode CB 1A (R258). -/
  | rrD
  /-- `RR E`, opcode CB 1B (R258). -/
  | rrE
  /-- `RR H`, opcode CB 1C (R258). -/
  | rrH
  /-- `RR L`, opcode CB 1D (R258). -/
  | rrL
  /-- `RR (HL)`, opcode CB 1E (R259). -/
  | rrAtHl
  /-- `RR A`, opcode CB 1F (R258). -/
  | rrA
  /-- `SLA B`, opcode CB 20 (R260). -/
  | slaB
  /-- `SLA C`, opcode CB 21 (R260). -/
  | slaC
  /-- `SLA D`, opcode CB 22 (R260). -/
  | slaD
  /-- `SLA E`, opcode CB 23 (R260). -/
  | slaE
  /-- `SLA H`, opcode CB 24 (R260). -/
  | slaH
  /-- `SLA L`, opcode CB 25 (R260). -/
  | slaL
  /-- `SLA (HL)`, opcode CB 26 (R261). -/
  | slaAtHl
  /-- `SLA A`, opcode CB 27 (R260). -/
  | slaA
  /-- `SRA B`, opcode CB 28 (R262). -/
  | sraB
  /-- `SRA C`, opcode CB 29 (R262). -/
  | sraC
  /-- `SRA D`, opcode CB 2A (R262). -/
  | sraD
  /-- `SRA E`, opcode CB 2B (R262). -/
  | sraE
  /-- `SRA H`, opcode CB 2C (R262). -/
  | sraH
  /-- `SRA L`, opcode CB 2D (R262). -/
  | sraL
  /-- `SRA (HL)`, opcode CB 2E (R263). -/
  | sraAtHl
  /-- `SRA A`, opcode CB 2F (R262). -/
  | sraA
  /-- `SWAP B`, opcode CB 30 (R264). -/
  | swapB
  /-- `SWAP C`, opcode CB 31 (R264). -/
  | swapC
  /-- `SWAP D`, opcode CB 32 (R264). -/
  | swapD
  /-- `SWAP E`, opcode CB 33 (R264). -/
  | swapE
  /-- `SWAP H`, opcode CB 34 (R264). -/
  | swapH
  /-- `SWAP L`, opcode CB 35 (R264). -/
  | swapL
  /-- `SWAP (HL)`, opcode CB 36 (R265). -/
  | swapAtHl
  /-- `SWAP A`, opcode CB 37 (R264). -/
  | swapA
  /-- `SRL B`, opcode CB 38 (R266). -/
  | srlB
  /-- `SRL C`, opcode CB 39 (R266). -/
  | srlC
  /-- `SRL D`, opcode CB 3A (R266). -/
  | srlD
  /-- `SRL E`, opcode CB 3B (R266). -/
  | srlE
  /-- `SRL H`, opcode CB 3C (R266). -/
  | srlH
  /-- `SRL L`, opcode CB 3D (R266). -/
  | srlL
  /-- `SRL (HL)`, opcode CB 3E (R267). -/
  | srlAtHl
  /-- `SRL A`, opcode CB 3F (R266). -/
  | srlA
  /-- `BIT 0,B`, opcode CB 40 (R270). -/
  | bit0B
  /-- `BIT 0,C`, opcode CB 41 (R270). -/
  | bit0C
  /-- `BIT 0,D`, opcode CB 42 (R270). -/
  | bit0D
  /-- `BIT 0,E`, opcode CB 43 (R270). -/
  | bit0E
  /-- `BIT 0,H`, opcode CB 44 (R270). -/
  | bit0H
  /-- `BIT 0,L`, opcode CB 45 (R270). -/
  | bit0L
  /-- `BIT 0,(HL)`, opcode CB 46 (R271). -/
  | bit0AtHl
  /-- `BIT 0,A`, opcode CB 47 (R270). -/
  | bit0A
  /-- `BIT 1,B`, opcode CB 48 (R270). -/
  | bit1B
  /-- `BIT 1,C`, opcode CB 49 (R270). -/
  | bit1C
  /-- `BIT 1,D`, opcode CB 4A (R270). -/
  | bit1D
  /-- `BIT 1,E`, opcode CB 4B (R270). -/
  | bit1E
  /-- `BIT 1,H`, opcode CB 4C (R270). -/
  | bit1H
  /-- `BIT 1,L`, opcode CB 4D (R270). -/
  | bit1L
  /-- `BIT 1,(HL)`, opcode CB 4E (R271). -/
  | bit1AtHl
  /-- `BIT 1,A`, opcode CB 4F (R270). -/
  | bit1A
  /-- `BIT 2,B`, opcode CB 50 (R270). -/
  | bit2B
  /-- `BIT 2,C`, opcode CB 51 (R270). -/
  | bit2C
  /-- `BIT 2,D`, opcode CB 52 (R270). -/
  | bit2D
  /-- `BIT 2,E`, opcode CB 53 (R270). -/
  | bit2E
  /-- `BIT 2,H`, opcode CB 54 (R270). -/
  | bit2H
  /-- `BIT 2,L`, opcode CB 55 (R270). -/
  | bit2L
  /-- `BIT 2,(HL)`, opcode CB 56 (R271). -/
  | bit2AtHl
  /-- `BIT 2,A`, opcode CB 57 (R270). -/
  | bit2A
  /-- `BIT 3,B`, opcode CB 58 (R270). -/
  | bit3B
  /-- `BIT 3,C`, opcode CB 59 (R270). -/
  | bit3C
  /-- `BIT 3,D`, opcode CB 5A (R270). -/
  | bit3D
  /-- `BIT 3,E`, opcode CB 5B (R270). -/
  | bit3E
  /-- `BIT 3,H`, opcode CB 5C (R270). -/
  | bit3H
  /-- `BIT 3,L`, opcode CB 5D (R270). -/
  | bit3L
  /-- `BIT 3,(HL)`, opcode CB 5E (R271). -/
  | bit3AtHl
  /-- `BIT 3,A`, opcode CB 5F (R270). -/
  | bit3A
  /-- `BIT 4,B`, opcode CB 60 (R270). -/
  | bit4B
  /-- `BIT 4,C`, opcode CB 61 (R270). -/
  | bit4C
  /-- `BIT 4,D`, opcode CB 62 (R270). -/
  | bit4D
  /-- `BIT 4,E`, opcode CB 63 (R270). -/
  | bit4E
  /-- `BIT 4,H`, opcode CB 64 (R270). -/
  | bit4H
  /-- `BIT 4,L`, opcode CB 65 (R270). -/
  | bit4L
  /-- `BIT 4,(HL)`, opcode CB 66 (R271). -/
  | bit4AtHl
  /-- `BIT 4,A`, opcode CB 67 (R270). -/
  | bit4A
  /-- `BIT 5,B`, opcode CB 68 (R270). -/
  | bit5B
  /-- `BIT 5,C`, opcode CB 69 (R270). -/
  | bit5C
  /-- `BIT 5,D`, opcode CB 6A (R270). -/
  | bit5D
  /-- `BIT 5,E`, opcode CB 6B (R270). -/
  | bit5E
  /-- `BIT 5,H`, opcode CB 6C (R270). -/
  | bit5H
  /-- `BIT 5,L`, opcode CB 6D (R270). -/
  | bit5L
  /-- `BIT 5,(HL)`, opcode CB 6E (R271). -/
  | bit5AtHl
  /-- `BIT 5,A`, opcode CB 6F (R270). -/
  | bit5A
  /-- `BIT 6,B`, opcode CB 70 (R270). -/
  | bit6B
  /-- `BIT 6,C`, opcode CB 71 (R270). -/
  | bit6C
  /-- `BIT 6,D`, opcode CB 72 (R270). -/
  | bit6D
  /-- `BIT 6,E`, opcode CB 73 (R270). -/
  | bit6E
  /-- `BIT 6,H`, opcode CB 74 (R270). -/
  | bit6H
  /-- `BIT 6,L`, opcode CB 75 (R270). -/
  | bit6L
  /-- `BIT 6,(HL)`, opcode CB 76 (R271). -/
  | bit6AtHl
  /-- `BIT 6,A`, opcode CB 77 (R270). -/
  | bit6A
  /-- `BIT 7,B`, opcode CB 78 (R270). -/
  | bit7B
  /-- `BIT 7,C`, opcode CB 79 (R270). -/
  | bit7C
  /-- `BIT 7,D`, opcode CB 7A (R270). -/
  | bit7D
  /-- `BIT 7,E`, opcode CB 7B (R270). -/
  | bit7E
  /-- `BIT 7,H`, opcode CB 7C (R270). -/
  | bit7H
  /-- `BIT 7,L`, opcode CB 7D (R270). -/
  | bit7L
  /-- `BIT 7,(HL)`, opcode CB 7E (R271). -/
  | bit7AtHl
  /-- `BIT 7,A`, opcode CB 7F (R270). -/
  | bit7A
  /-- `RES 0,B`, opcode CB 80 (R272). -/
  | res0B
  /-- `RES 0,C`, opcode CB 81 (R272). -/
  | res0C
  /-- `RES 0,D`, opcode CB 82 (R272). -/
  | res0D
  /-- `RES 0,E`, opcode CB 83 (R272). -/
  | res0E
  /-- `RES 0,H`, opcode CB 84 (R272). -/
  | res0H
  /-- `RES 0,L`, opcode CB 85 (R272). -/
  | res0L
  /-- `RES 0,(HL)`, opcode CB 86 (R273). -/
  | res0AtHl
  /-- `RES 0,A`, opcode CB 87 (R272). -/
  | res0A
  /-- `RES 1,B`, opcode CB 88 (R272). -/
  | res1B
  /-- `RES 1,C`, opcode CB 89 (R272). -/
  | res1C
  /-- `RES 1,D`, opcode CB 8A (R272). -/
  | res1D
  /-- `RES 1,E`, opcode CB 8B (R272). -/
  | res1E
  /-- `RES 1,H`, opcode CB 8C (R272). -/
  | res1H
  /-- `RES 1,L`, opcode CB 8D (R272). -/
  | res1L
  /-- `RES 1,(HL)`, opcode CB 8E (R273). -/
  | res1AtHl
  /-- `RES 1,A`, opcode CB 8F (R272). -/
  | res1A
  /-- `RES 2,B`, opcode CB 90 (R272). -/
  | res2B
  /-- `RES 2,C`, opcode CB 91 (R272). -/
  | res2C
  /-- `RES 2,D`, opcode CB 92 (R272). -/
  | res2D
  /-- `RES 2,E`, opcode CB 93 (R272). -/
  | res2E
  /-- `RES 2,H`, opcode CB 94 (R272). -/
  | res2H
  /-- `RES 2,L`, opcode CB 95 (R272). -/
  | res2L
  /-- `RES 2,(HL)`, opcode CB 96 (R273). -/
  | res2AtHl
  /-- `RES 2,A`, opcode CB 97 (R272). -/
  | res2A
  /-- `RES 3,B`, opcode CB 98 (R272). -/
  | res3B
  /-- `RES 3,C`, opcode CB 99 (R272). -/
  | res3C
  /-- `RES 3,D`, opcode CB 9A (R272). -/
  | res3D
  /-- `RES 3,E`, opcode CB 9B (R272). -/
  | res3E
  /-- `RES 3,H`, opcode CB 9C (R272). -/
  | res3H
  /-- `RES 3,L`, opcode CB 9D (R272). -/
  | res3L
  /-- `RES 3,(HL)`, opcode CB 9E (R273). -/
  | res3AtHl
  /-- `RES 3,A`, opcode CB 9F (R272). -/
  | res3A
  /-- `RES 4,B`, opcode CB A0 (R272). -/
  | res4B
  /-- `RES 4,C`, opcode CB A1 (R272). -/
  | res4C
  /-- `RES 4,D`, opcode CB A2 (R272). -/
  | res4D
  /-- `RES 4,E`, opcode CB A3 (R272). -/
  | res4E
  /-- `RES 4,H`, opcode CB A4 (R272). -/
  | res4H
  /-- `RES 4,L`, opcode CB A5 (R272). -/
  | res4L
  /-- `RES 4,(HL)`, opcode CB A6 (R273). -/
  | res4AtHl
  /-- `RES 4,A`, opcode CB A7 (R272). -/
  | res4A
  /-- `RES 5,B`, opcode CB A8 (R272). -/
  | res5B
  /-- `RES 5,C`, opcode CB A9 (R272). -/
  | res5C
  /-- `RES 5,D`, opcode CB AA (R272). -/
  | res5D
  /-- `RES 5,E`, opcode CB AB (R272). -/
  | res5E
  /-- `RES 5,H`, opcode CB AC (R272). -/
  | res5H
  /-- `RES 5,L`, opcode CB AD (R272). -/
  | res5L
  /-- `RES 5,(HL)`, opcode CB AE (R273). -/
  | res5AtHl
  /-- `RES 5,A`, opcode CB AF (R272). -/
  | res5A
  /-- `RES 6,B`, opcode CB B0 (R272). -/
  | res6B
  /-- `RES 6,C`, opcode CB B1 (R272). -/
  | res6C
  /-- `RES 6,D`, opcode CB B2 (R272). -/
  | res6D
  /-- `RES 6,E`, opcode CB B3 (R272). -/
  | res6E
  /-- `RES 6,H`, opcode CB B4 (R272). -/
  | res6H
  /-- `RES 6,L`, opcode CB B5 (R272). -/
  | res6L
  /-- `RES 6,(HL)`, opcode CB B6 (R273). -/
  | res6AtHl
  /-- `RES 6,A`, opcode CB B7 (R272). -/
  | res6A
  /-- `RES 7,B`, opcode CB B8 (R272). -/
  | res7B
  /-- `RES 7,C`, opcode CB B9 (R272). -/
  | res7C
  /-- `RES 7,D`, opcode CB BA (R272). -/
  | res7D
  /-- `RES 7,E`, opcode CB BB (R272). -/
  | res7E
  /-- `RES 7,H`, opcode CB BC (R272). -/
  | res7H
  /-- `RES 7,L`, opcode CB BD (R272). -/
  | res7L
  /-- `RES 7,(HL)`, opcode CB BE (R273). -/
  | res7AtHl
  /-- `RES 7,A`, opcode CB BF (R272). -/
  | res7A
  /-- `SET 0,B`, opcode CB C0 (R274). -/
  | set0B
  /-- `SET 0,C`, opcode CB C1 (R274). -/
  | set0C
  /-- `SET 0,D`, opcode CB C2 (R274). -/
  | set0D
  /-- `SET 0,E`, opcode CB C3 (R274). -/
  | set0E
  /-- `SET 0,H`, opcode CB C4 (R274). -/
  | set0H
  /-- `SET 0,L`, opcode CB C5 (R274). -/
  | set0L
  /-- `SET 0,(HL)`, opcode CB C6 (R275). -/
  | set0AtHl
  /-- `SET 0,A`, opcode CB C7 (R274). -/
  | set0A
  /-- `SET 1,B`, opcode CB C8 (R274). -/
  | set1B
  /-- `SET 1,C`, opcode CB C9 (R274). -/
  | set1C
  /-- `SET 1,D`, opcode CB CA (R274). -/
  | set1D
  /-- `SET 1,E`, opcode CB CB (R274). -/
  | set1E
  /-- `SET 1,H`, opcode CB CC (R274). -/
  | set1H
  /-- `SET 1,L`, opcode CB CD (R274). -/
  | set1L
  /-- `SET 1,(HL)`, opcode CB CE (R275). -/
  | set1AtHl
  /-- `SET 1,A`, opcode CB CF (R274). -/
  | set1A
  /-- `SET 2,B`, opcode CB D0 (R274). -/
  | set2B
  /-- `SET 2,C`, opcode CB D1 (R274). -/
  | set2C
  /-- `SET 2,D`, opcode CB D2 (R274). -/
  | set2D
  /-- `SET 2,E`, opcode CB D3 (R274). -/
  | set2E
  /-- `SET 2,H`, opcode CB D4 (R274). -/
  | set2H
  /-- `SET 2,L`, opcode CB D5 (R274). -/
  | set2L
  /-- `SET 2,(HL)`, opcode CB D6 (R275). -/
  | set2AtHl
  /-- `SET 2,A`, opcode CB D7 (R274). -/
  | set2A
  /-- `SET 3,B`, opcode CB D8 (R274). -/
  | set3B
  /-- `SET 3,C`, opcode CB D9 (R274). -/
  | set3C
  /-- `SET 3,D`, opcode CB DA (R274). -/
  | set3D
  /-- `SET 3,E`, opcode CB DB (R274). -/
  | set3E
  /-- `SET 3,H`, opcode CB DC (R274). -/
  | set3H
  /-- `SET 3,L`, opcode CB DD (R274). -/
  | set3L
  /-- `SET 3,(HL)`, opcode CB DE (R275). -/
  | set3AtHl
  /-- `SET 3,A`, opcode CB DF (R274). -/
  | set3A
  /-- `SET 4,B`, opcode CB E0 (R274). -/
  | set4B
  /-- `SET 4,C`, opcode CB E1 (R274). -/
  | set4C
  /-- `SET 4,D`, opcode CB E2 (R274). -/
  | set4D
  /-- `SET 4,E`, opcode CB E3 (R274). -/
  | set4E
  /-- `SET 4,H`, opcode CB E4 (R274). -/
  | set4H
  /-- `SET 4,L`, opcode CB E5 (R274). -/
  | set4L
  /-- `SET 4,(HL)`, opcode CB E6 (R275). -/
  | set4AtHl
  /-- `SET 4,A`, opcode CB E7 (R274). -/
  | set4A
  /-- `SET 5,B`, opcode CB E8 (R274). -/
  | set5B
  /-- `SET 5,C`, opcode CB E9 (R274). -/
  | set5C
  /-- `SET 5,D`, opcode CB EA (R274). -/
  | set5D
  /-- `SET 5,E`, opcode CB EB (R274). -/
  | set5E
  /-- `SET 5,H`, opcode CB EC (R274). -/
  | set5H
  /-- `SET 5,L`, opcode CB ED (R274). -/
  | set5L
  /-- `SET 5,(HL)`, opcode CB EE (R275). -/
  | set5AtHl
  /-- `SET 5,A`, opcode CB EF (R274). -/
  | set5A
  /-- `SET 6,B`, opcode CB F0 (R274). -/
  | set6B
  /-- `SET 6,C`, opcode CB F1 (R274). -/
  | set6C
  /-- `SET 6,D`, opcode CB F2 (R274). -/
  | set6D
  /-- `SET 6,E`, opcode CB F3 (R274). -/
  | set6E
  /-- `SET 6,H`, opcode CB F4 (R274). -/
  | set6H
  /-- `SET 6,L`, opcode CB F5 (R274). -/
  | set6L
  /-- `SET 6,(HL)`, opcode CB F6 (R275). -/
  | set6AtHl
  /-- `SET 6,A`, opcode CB F7 (R274). -/
  | set6A
  /-- `SET 7,B`, opcode CB F8 (R274). -/
  | set7B
  /-- `SET 7,C`, opcode CB F9 (R274). -/
  | set7C
  /-- `SET 7,D`, opcode CB FA (R274). -/
  | set7D
  /-- `SET 7,E`, opcode CB FB (R274). -/
  | set7E
  /-- `SET 7,H`, opcode CB FC (R274). -/
  | set7H
  /-- `SET 7,L`, opcode CB FD (R274). -/
  | set7L
  /-- `SET 7,(HL)`, opcode CB FE (R275). -/
  | set7AtHl
  /-- `SET 7,A`, opcode CB FF (R274). -/
  | set7A
deriving DecidableEq, Repr

end Sys2Proof
end

