-- ==== Sys2Proof/Machine/Form.lean ====
section
/-! DEFINITION. The operand fields of the encoding (R82 to R86, R91) and the regular form of every
instruction: which operation the row is and with which field values. The encoder builds an instruction's bytes
from its form by the field decomposition of R81 and R91, while the decoder reads the opcode maps R93 and R94 cell by
cell, so that the round trip between them compares the two descriptions. No meaning reads a form. -/

namespace Sys2Proof

/-- The seven 8-bit registers an r field can name (R82). F is not among them (R21). -/
inductive Reg8 where
  | b | c | d | e | h | l | a
deriving DecidableEq, Repr

/-- The eight operand locations of the r field: a register, or the byte at HL (R82). -/
inductive Loc where
  | reg (r : Reg8)
  | atHl
deriving DecidableEq, Repr

/-- The register pairs of the rp field (R83). -/
inductive Pair where
  | bc | de | hl | sp
deriving DecidableEq, Repr

/-- The register pairs of the rp2 field, of PUSH and POP (R84). -/
inductive StackPair where
  | bc | de | hl | af
deriving DecidableEq, Repr

/-- The four conditions of the cc field (R85, R280). -/
inductive Cond where
  | nz | z | nc | c
deriving DecidableEq, Repr

/-- The eight accumulator operations of the ALU field (R86). -/
inductive AluOp where
  | add | adc | sub | sbc | and | xor | or | cp
deriving DecidableEq, Repr

/-- The eight rotate and shift operations of the extended space (R91). -/
inductive RotOp where
  | rlc | rrc | rl | rr | sla | sra | swap | srl
deriving DecidableEq, Repr

/-- The ways a one-byte accumulator load or store addresses memory: BC, DE, HL with a post-increment or
post-decrement, and 0xFF00 + C (R145 to R148, R153 to R158). -/
inductive AccAddr where
  | bc | de | hlInc | hlDec | highC
deriving DecidableEq, Repr

/-- The r field of a register (R82). -/
def Reg8.code : Reg8 → BitVec 3
  | .b => 0 | .c => 1 | .d => 2 | .e => 3 | .h => 4 | .l => 5 | .a => 7

/-- The r field of an operand location: 6 is (HL) (R82). -/
def Loc.code : Loc → BitVec 3
  | .reg r => r.code
  | .atHl => 6

/-- The operand location an r field names (R82). -/
def Loc.ofCode (r : BitVec 3) : Loc :=
  match r.toNat with
  | 0 => .reg .b
  | 1 => .reg .c
  | 2 => .reg .d
  | 3 => .reg .e
  | 4 => .reg .h
  | 5 => .reg .l
  | 6 => .atHl
  | _ => .reg .a

/-- The rp field (R83). -/
def Pair.code : Pair → BitVec 2
  | .bc => 0 | .de => 1 | .hl => 2 | .sp => 3

/-- The rp2 field (R84). -/
def StackPair.code : StackPair → BitVec 2
  | .bc => 0 | .de => 1 | .hl => 2 | .af => 3

/-- The cc field (R85). -/
def Cond.code : Cond → BitVec 2
  | .nz => 0 | .z => 1 | .nc => 2 | .c => 3

/-- The ALU operation field (R86). -/
def AluOp.code : AluOp → BitVec 3
  | .add => 0 | .adc => 1 | .sub => 2 | .sbc => 3 | .and => 4 | .xor => 5 | .or => 6 | .cp => 7

/-- The rotate/shift operation field y of an extended sub-opcode with x = 0 (R91). -/
def RotOp.code : RotOp → BitVec 3
  | .rlc => 0 | .rrc => 1 | .rl => 2 | .rr => 3 | .sla => 4 | .sra => 5 | .swap => 6 | .srl => 7

/-- The rotate/shift operation a field y names (R91). -/
def RotOp.ofCode (y : BitVec 3) : RotOp :=
  match y.toNat with
  | 0 => .rlc
  | 1 => .rrc
  | 2 => .rl
  | 3 => .rr
  | 4 => .sla
  | 5 => .sra
  | 6 => .swap
  | _ => .srl

/-- The regular form of an instruction: its operation and its operand fields. -/
inductive Form where
  /-- NOP (R300). -/
  | nop
  /-- STOP with its ignored second byte (R302). -/
  | stop (ignored : Byte)
  /-- HALT (R301). -/
  | halt
  /-- DI (R303). -/
  | di
  /-- EI (R304). -/
  | ei
  /-- LD r,r'; LD r,(HL); LD (HL),r (R140 to R142). -/
  | ld (dst src : Loc)
  /-- LD r,d8; LD (HL),d8 (R143, R144). -/
  | ldImm (dst : Loc) (d8 : Byte)
  /-- LD A,(BC); LD A,(DE); LD A,(HL+); LD A,(HL-); LD A,(C) (R145, R146, R153, R156, R158). -/
  | ldLoad (src : AccAddr)
  /-- LD (BC),A; LD (DE),A; LD (HL+),A; LD (HL-),A; LD (C),A (R147, R148, R154, R155, R157). -/
  | ldStore (dst : AccAddr)
  /-- LD A,(a16) (R149). -/
  | ldAbsLoad (a16 : Word)
  /-- LD (a16),A (R150). -/
  | ldAbsStore (a16 : Word)
  /-- LDH A,(a8) (R151). -/
  | ldhLoad (a8 : Byte)
  /-- LDH (a8),A (R152). -/
  | ldhStore (a8 : Byte)
  /-- LD rp,d16 (R173). -/
  | ldPair (rp : Pair) (d16 : Word)
  /-- LD (a16),SP (R174). -/
  | ldAbsSp (a16 : Word)
  /-- LD SP,HL (R175). -/
  | ldSpHl
  /-- LD HL,SP+e8 (R176). -/
  | ldHlSp (e8 : Byte)
  /-- PUSH rp2 (R177). -/
  | push (rp2 : StackPair)
  /-- POP rp2 and POP AF (R178, R179). -/
  | pop (rp2 : StackPair)
  /-- The eight accumulator operations on a register or (HL) (R196 to R218). -/
  | alu (op : AluOp) (src : Loc)
  /-- The eight accumulator operations on an immediate (R198 to R219). -/
  | aluImm (op : AluOp) (d8 : Byte)
  /-- INC r; INC (HL) (R220, R221). -/
  | inc (dst : Loc)
  /-- DEC r; DEC (HL) (R222, R223). -/
  | dec (dst : Loc)
  /-- DAA (R224). -/
  | daa
  /-- CPL (R225). -/
  | cpl
  /-- SCF (R226). -/
  | scf
  /-- CCF (R227). -/
  | ccf
  /-- INC rp (R230). -/
  | incPair (rp : Pair)
  /-- DEC rp (R231). -/
  | decPair (rp : Pair)
  /-- ADD HL,rp (R232). -/
  | addHl (rp : Pair)
  /-- ADD SP,e8 (R233). -/
  | addSp (e8 : Byte)
  /-- RLCA (R248). -/
  | rlca
  /-- RRCA (R249). -/
  | rrca
  /-- RLA (R250). -/
  | rla
  /-- RRA (R251). -/
  | rra
  /-- The extended rotates, shifts and SWAP (R252 to R267). -/
  | rot (op : RotOp) (dst : Loc)
  /-- BIT b,r; BIT b,(HL) (R270, R271). -/
  | bit (b : BitVec 3) (src : Loc)
  /-- RES b,r; RES b,(HL) (R272, R273). -/
  | res (b : BitVec 3) (dst : Loc)
  /-- SET b,r; SET b,(HL) (R274, R275). -/
  | set (b : BitVec 3) (dst : Loc)
  /-- JP a16 (R281). -/
  | jp (a16 : Word)
  /-- JP cc,a16 (R282). -/
  | jpIf (cc : Cond) (a16 : Word)
  /-- JP HL (R283). -/
  | jpHl
  /-- JR e8 (R284). -/
  | jr (e8 : Byte)
  /-- JR cc,e8 (R285). -/
  | jrIf (cc : Cond) (e8 : Byte)
  /-- CALL a16 (R286). -/
  | call (a16 : Word)
  /-- CALL cc,a16 (R287). -/
  | callIf (cc : Cond) (a16 : Word)
  /-- RET (R288). -/
  | ret
  /-- RET cc (R289). -/
  | retIf (cc : Cond)
  /-- RETI (R290). -/
  | reti
  /-- RST n with n = 8 * y (R291). -/
  | rst (y : BitVec 3)
  /-- One of the eleven illegal base opcodes (R99, R305). -/
  | illegal (op : Byte)
  /-- The escape byte 0xCB by itself (R92, R306). -/
  | escape
deriving DecidableEq, Repr

/-- The form of every row of the opcode table (R81 to R86, R91, R93, R94). -/
def Instr.form : Instr → Form
  | .nop => .nop
  | .ldBcD16 d16 => .ldPair .bc d16
  | .ldAtBcA => .ldStore .bc
  | .incBc => .incPair .bc
  | .incB => .inc (.reg .b)
  | .decB => .dec (.reg .b)
  | .ldBD8 d8 => .ldImm (.reg .b) d8
  | .rlca => .rlca
  | .ldAtA16Sp a16 => .ldAbsSp a16
  | .addHlBc => .addHl .bc
  | .ldAAtBc => .ldLoad .bc
  | .decBc => .decPair .bc
  | .incC => .inc (.reg .c)
  | .decC => .dec (.reg .c)
  | .ldCD8 d8 => .ldImm (.reg .c) d8
  | .rrca => .rrca
  | .stop x => .stop x
  | .ldDeD16 d16 => .ldPair .de d16
  | .ldAtDeA => .ldStore .de
  | .incDe => .incPair .de
  | .incD => .inc (.reg .d)
  | .decD => .dec (.reg .d)
  | .ldDD8 d8 => .ldImm (.reg .d) d8
  | .rla => .rla
  | .jrE8 e8 => .jr e8
  | .addHlDe => .addHl .de
  | .ldAAtDe => .ldLoad .de
  | .decDe => .decPair .de
  | .incE => .inc (.reg .e)
  | .decE => .dec (.reg .e)
  | .ldED8 d8 => .ldImm (.reg .e) d8
  | .rra => .rra
  | .jrNzE8 e8 => .jrIf .nz e8
  | .ldHlD16 d16 => .ldPair .hl d16
  | .ldAtHlIncA => .ldStore .hlInc
  | .incHl => .incPair .hl
  | .incH => .inc (.reg .h)
  | .decH => .dec (.reg .h)
  | .ldHD8 d8 => .ldImm (.reg .h) d8
  | .daa => .daa
  | .jrZE8 e8 => .jrIf .z e8
  | .addHlHl => .addHl .hl
  | .ldAAtHlInc => .ldLoad .hlInc
  | .decHl => .decPair .hl
  | .incL => .inc (.reg .l)
  | .decL => .dec (.reg .l)
  | .ldLD8 d8 => .ldImm (.reg .l) d8
  | .cpl => .cpl
  | .jrNcE8 e8 => .jrIf .nc e8
  | .ldSpD16 d16 => .ldPair .sp d16
  | .ldAtHlDecA => .ldStore .hlDec
  | .incSp => .incPair .sp
  | .incAtHl => .inc .atHl
  | .decAtHl => .dec .atHl
  | .ldAtHlD8 d8 => .ldImm .atHl d8
  | .scf => .scf
  | .jrCE8 e8 => .jrIf .c e8
  | .addHlSp => .addHl .sp
  | .ldAAtHlDec => .ldLoad .hlDec
  | .decSp => .decPair .sp
  | .incA => .inc (.reg .a)
  | .decA => .dec (.reg .a)
  | .ldAD8 d8 => .ldImm (.reg .a) d8
  | .ccf => .ccf
  | .ldBB => .ld (.reg .b) (.reg .b)
  | .ldBC => .ld (.reg .b) (.reg .c)
  | .ldBD => .ld (.reg .b) (.reg .d)
  | .ldBE => .ld (.reg .b) (.reg .e)
  | .ldBH => .ld (.reg .b) (.reg .h)
  | .ldBL => .ld (.reg .b) (.reg .l)
  | .ldBAtHl => .ld (.reg .b) .atHl
  | .ldBA => .ld (.reg .b) (.reg .a)
  | .ldCB => .ld (.reg .c) (.reg .b)
  | .ldCC => .ld (.reg .c) (.reg .c)
  | .ldCD => .ld (.reg .c) (.reg .d)
  | .ldCE => .ld (.reg .c) (.reg .e)
  | .ldCH => .ld (.reg .c) (.reg .h)
  | .ldCL => .ld (.reg .c) (.reg .l)
  | .ldCAtHl => .ld (.reg .c) .atHl
  | .ldCA => .ld (.reg .c) (.reg .a)
  | .ldDB => .ld (.reg .d) (.reg .b)
  | .ldDC => .ld (.reg .d) (.reg .c)
  | .ldDD => .ld (.reg .d) (.reg .d)
  | .ldDE => .ld (.reg .d) (.reg .e)
  | .ldDH => .ld (.reg .d) (.reg .h)
  | .ldDL => .ld (.reg .d) (.reg .l)
  | .ldDAtHl => .ld (.reg .d) .atHl
  | .ldDA => .ld (.reg .d) (.reg .a)
  | .ldEB => .ld (.reg .e) (.reg .b)
  | .ldEC => .ld (.reg .e) (.reg .c)
  | .ldED => .ld (.reg .e) (.reg .d)
  | .ldEE => .ld (.reg .e) (.reg .e)
  | .ldEH => .ld (.reg .e) (.reg .h)
  | .ldEL => .ld (.reg .e) (.reg .l)
  | .ldEAtHl => .ld (.reg .e) .atHl
  | .ldEA => .ld (.reg .e) (.reg .a)
  | .ldHB => .ld (.reg .h) (.reg .b)
  | .ldHC => .ld (.reg .h) (.reg .c)
  | .ldHD => .ld (.reg .h) (.reg .d)
  | .ldHE => .ld (.reg .h) (.reg .e)
  | .ldHH => .ld (.reg .h) (.reg .h)
  | .ldHL => .ld (.reg .h) (.reg .l)
  | .ldHAtHl => .ld (.reg .h) .atHl
  | .ldHA => .ld (.reg .h) (.reg .a)
  | .ldLB => .ld (.reg .l) (.reg .b)
  | .ldLC => .ld (.reg .l) (.reg .c)
  | .ldLD => .ld (.reg .l) (.reg .d)
  | .ldLE => .ld (.reg .l) (.reg .e)
  | .ldLH => .ld (.reg .l) (.reg .h)
  | .ldLL => .ld (.reg .l) (.reg .l)
  | .ldLAtHl => .ld (.reg .l) .atHl
  | .ldLA => .ld (.reg .l) (.reg .a)
  | .ldAtHlB => .ld .atHl (.reg .b)
  | .ldAtHlC => .ld .atHl (.reg .c)
  | .ldAtHlD => .ld .atHl (.reg .d)
  | .ldAtHlE => .ld .atHl (.reg .e)
  | .ldAtHlH => .ld .atHl (.reg .h)
  | .ldAtHlL => .ld .atHl (.reg .l)
  | .halt => .halt
  | .ldAtHlA => .ld .atHl (.reg .a)
  | .ldAB => .ld (.reg .a) (.reg .b)
  | .ldAC => .ld (.reg .a) (.reg .c)
  | .ldAD => .ld (.reg .a) (.reg .d)
  | .ldAE => .ld (.reg .a) (.reg .e)
  | .ldAH => .ld (.reg .a) (.reg .h)
  | .ldAL => .ld (.reg .a) (.reg .l)
  | .ldAAtHl => .ld (.reg .a) .atHl
  | .ldAA => .ld (.reg .a) (.reg .a)
  | .addAB => .alu .add (.reg .b)
  | .addAC => .alu .add (.reg .c)
  | .addAD => .alu .add (.reg .d)
  | .addAE => .alu .add (.reg .e)
  | .addAH => .alu .add (.reg .h)
  | .addAL => .alu .add (.reg .l)
  | .addAAtHl => .alu .add .atHl
  | .addAA => .alu .add (.reg .a)
  | .adcAB => .alu .adc (.reg .b)
  | .adcAC => .alu .adc (.reg .c)
  | .adcAD => .alu .adc (.reg .d)
  | .adcAE => .alu .adc (.reg .e)
  | .adcAH => .alu .adc (.reg .h)
  | .adcAL => .alu .adc (.reg .l)
  | .adcAAtHl => .alu .adc .atHl
  | .adcAA => .alu .adc (.reg .a)
  | .subB => .alu .sub (.reg .b)
  | .subC => .alu .sub (.reg .c)
  | .subD => .alu .sub (.reg .d)
  | .subE => .alu .sub (.reg .e)
  | .subH => .alu .sub (.reg .h)
  | .subL => .alu .sub (.reg .l)
  | .subAtHl => .alu .sub .atHl
  | .subA => .alu .sub (.reg .a)
  | .sbcAB => .alu .sbc (.reg .b)
  | .sbcAC => .alu .sbc (.reg .c)
  | .sbcAD => .alu .sbc (.reg .d)
  | .sbcAE => .alu .sbc (.reg .e)
  | .sbcAH => .alu .sbc (.reg .h)
  | .sbcAL => .alu .sbc (.reg .l)
  | .sbcAAtHl => .alu .sbc .atHl
  | .sbcAA => .alu .sbc (.reg .a)
  | .andB => .alu .and (.reg .b)
  | .andC => .alu .and (.reg .c)
  | .andD => .alu .and (.reg .d)
  | .andE => .alu .and (.reg .e)
  | .andH => .alu .and (.reg .h)
  | .andL => .alu .and (.reg .l)
  | .andAtHl => .alu .and .atHl
  | .andA => .alu .and (.reg .a)
  | .xorB => .alu .xor (.reg .b)
  | .xorC => .alu .xor (.reg .c)
  | .xorD => .alu .xor (.reg .d)
  | .xorE => .alu .xor (.reg .e)
  | .xorH => .alu .xor (.reg .h)
  | .xorL => .alu .xor (.reg .l)
  | .xorAtHl => .alu .xor .atHl
  | .xorA => .alu .xor (.reg .a)
  | .orB => .alu .or (.reg .b)
  | .orC => .alu .or (.reg .c)
  | .orD => .alu .or (.reg .d)
  | .orE => .alu .or (.reg .e)
  | .orH => .alu .or (.reg .h)
  | .orL => .alu .or (.reg .l)
  | .orAtHl => .alu .or .atHl
  | .orA => .alu .or (.reg .a)
  | .cpB => .alu .cp (.reg .b)
  | .cpC => .alu .cp (.reg .c)
  | .cpD => .alu .cp (.reg .d)
  | .cpE => .alu .cp (.reg .e)
  | .cpH => .alu .cp (.reg .h)
  | .cpL => .alu .cp (.reg .l)
  | .cpAtHl => .alu .cp .atHl
  | .cpA => .alu .cp (.reg .a)
  | .retNz => .retIf .nz
  | .popBc => .pop .bc
  | .jpNzA16 a16 => .jpIf .nz a16
  | .jpA16 a16 => .jp a16
  | .callNzA16 a16 => .callIf .nz a16
  | .pushBc => .push .bc
  | .addAD8 d8 => .aluImm .add d8
  | .rst00 => .rst 0
  | .retZ => .retIf .z
  | .ret => .ret
  | .jpZA16 a16 => .jpIf .z a16
  | .callZA16 a16 => .callIf .z a16
  | .callA16 a16 => .call a16
  | .adcAD8 d8 => .aluImm .adc d8
  | .rst08 => .rst 1
  | .retNc => .retIf .nc
  | .popDe => .pop .de
  | .jpNcA16 a16 => .jpIf .nc a16
  | .callNcA16 a16 => .callIf .nc a16
  | .pushDe => .push .de
  | .subD8 d8 => .aluImm .sub d8
  | .rst10 => .rst 2
  | .retC => .retIf .c
  | .reti => .reti
  | .jpCA16 a16 => .jpIf .c a16
  | .callCA16 a16 => .callIf .c a16
  | .sbcAD8 d8 => .aluImm .sbc d8
  | .rst18 => .rst 3
  | .ldhAtA8A a8 => .ldhStore a8
  | .popHl => .pop .hl
  | .ldAtCA => .ldStore .highC
  | .pushHl => .push .hl
  | .andD8 d8 => .aluImm .and d8
  | .rst20 => .rst 4
  | .addSpE8 e8 => .addSp e8
  | .jpHl => .jpHl
  | .ldAtA16A a16 => .ldAbsStore a16
  | .xorD8 d8 => .aluImm .xor d8
  | .rst28 => .rst 5
  | .ldhAAtA8 a8 => .ldhLoad a8
  | .popAf => .pop .af
  | .ldAAtC => .ldLoad .highC
  | .di => .di
  | .pushAf => .push .af
  | .orD8 d8 => .aluImm .or d8
  | .rst30 => .rst 6
  | .ldHlSpE8 e8 => .ldHlSp e8
  | .ldSpHl => .ldSpHl
  | .ldAAtA16 a16 => .ldAbsLoad a16
  | .ei => .ei
  | .cpD8 d8 => .aluImm .cp d8
  | .rst38 => .rst 7
  | .prefixCb => .escape
  | .illegalD3 => .illegal 0xD3
  | .illegalDB => .illegal 0xDB
  | .illegalDD => .illegal 0xDD
  | .illegalE3 => .illegal 0xE3
  | .illegalE4 => .illegal 0xE4
  | .illegalEB => .illegal 0xEB
  | .illegalEC => .illegal 0xEC
  | .illegalED => .illegal 0xED
  | .illegalF4 => .illegal 0xF4
  | .illegalFC => .illegal 0xFC
  | .illegalFD => .illegal 0xFD
  | .rlcB => .rot .rlc (.reg .b)
  | .rlcC => .rot .rlc (.reg .c)
  | .rlcD => .rot .rlc (.reg .d)
  | .rlcE => .rot .rlc (.reg .e)
  | .rlcH => .rot .rlc (.reg .h)
  | .rlcL => .rot .rlc (.reg .l)
  | .rlcAtHl => .rot .rlc .atHl
  | .rlcA => .rot .rlc (.reg .a)
  | .rrcB => .rot .rrc (.reg .b)
  | .rrcC => .rot .rrc (.reg .c)
  | .rrcD => .rot .rrc (.reg .d)
  | .rrcE => .rot .rrc (.reg .e)
  | .rrcH => .rot .rrc (.reg .h)
  | .rrcL => .rot .rrc (.reg .l)
  | .rrcAtHl => .rot .rrc .atHl
  | .rrcA => .rot .rrc (.reg .a)
  | .rlB => .rot .rl (.reg .b)
  | .rlC => .rot .rl (.reg .c)
  | .rlD => .rot .rl (.reg .d)
  | .rlE => .rot .rl (.reg .e)
  | .rlH => .rot .rl (.reg .h)
  | .rlL => .rot .rl (.reg .l)
  | .rlAtHl => .rot .rl .atHl
  | .rlA => .rot .rl (.reg .a)
  | .rrB => .rot .rr (.reg .b)
  | .rrC => .rot .rr (.reg .c)
  | .rrD => .rot .rr (.reg .d)
  | .rrE => .rot .rr (.reg .e)
  | .rrH => .rot .rr (.reg .h)
  | .rrL => .rot .rr (.reg .l)
  | .rrAtHl => .rot .rr .atHl
  | .rrA => .rot .rr (.reg .a)
  | .slaB => .rot .sla (.reg .b)
  | .slaC => .rot .sla (.reg .c)
  | .slaD => .rot .sla (.reg .d)
  | .slaE => .rot .sla (.reg .e)
  | .slaH => .rot .sla (.reg .h)
  | .slaL => .rot .sla (.reg .l)
  | .slaAtHl => .rot .sla .atHl
  | .slaA => .rot .sla (.reg .a)
  | .sraB => .rot .sra (.reg .b)
  | .sraC => .rot .sra (.reg .c)
  | .sraD => .rot .sra (.reg .d)
  | .sraE => .rot .sra (.reg .e)
  | .sraH => .rot .sra (.reg .h)
  | .sraL => .rot .sra (.reg .l)
  | .sraAtHl => .rot .sra .atHl
  | .sraA => .rot .sra (.reg .a)
  | .swapB => .rot .swap (.reg .b)
  | .swapC => .rot .swap (.reg .c)
  | .swapD => .rot .swap (.reg .d)
  | .swapE => .rot .swap (.reg .e)
  | .swapH => .rot .swap (.reg .h)
  | .swapL => .rot .swap (.reg .l)
  | .swapAtHl => .rot .swap .atHl
  | .swapA => .rot .swap (.reg .a)
  | .srlB => .rot .srl (.reg .b)
  | .srlC => .rot .srl (.reg .c)
  | .srlD => .rot .srl (.reg .d)
  | .srlE => .rot .srl (.reg .e)
  | .srlH => .rot .srl (.reg .h)
  | .srlL => .rot .srl (.reg .l)
  | .srlAtHl => .rot .srl .atHl
  | .srlA => .rot .srl (.reg .a)
  | .bit0B => .bit 0 (.reg .b)
  | .bit0C => .bit 0 (.reg .c)
  | .bit0D => .bit 0 (.reg .d)
  | .bit0E => .bit 0 (.reg .e)
  | .bit0H => .bit 0 (.reg .h)
  | .bit0L => .bit 0 (.reg .l)
  | .bit0AtHl => .bit 0 .atHl
  | .bit0A => .bit 0 (.reg .a)
  | .bit1B => .bit 1 (.reg .b)
  | .bit1C => .bit 1 (.reg .c)
  | .bit1D => .bit 1 (.reg .d)
  | .bit1E => .bit 1 (.reg .e)
  | .bit1H => .bit 1 (.reg .h)
  | .bit1L => .bit 1 (.reg .l)
  | .bit1AtHl => .bit 1 .atHl
  | .bit1A => .bit 1 (.reg .a)
  | .bit2B => .bit 2 (.reg .b)
  | .bit2C => .bit 2 (.reg .c)
  | .bit2D => .bit 2 (.reg .d)
  | .bit2E => .bit 2 (.reg .e)
  | .bit2H => .bit 2 (.reg .h)
  | .bit2L => .bit 2 (.reg .l)
  | .bit2AtHl => .bit 2 .atHl
  | .bit2A => .bit 2 (.reg .a)
  | .bit3B => .bit 3 (.reg .b)
  | .bit3C => .bit 3 (.reg .c)
  | .bit3D => .bit 3 (.reg .d)
  | .bit3E => .bit 3 (.reg .e)
  | .bit3H => .bit 3 (.reg .h)
  | .bit3L => .bit 3 (.reg .l)
  | .bit3AtHl => .bit 3 .atHl
  | .bit3A => .bit 3 (.reg .a)
  | .bit4B => .bit 4 (.reg .b)
  | .bit4C => .bit 4 (.reg .c)
  | .bit4D => .bit 4 (.reg .d)
  | .bit4E => .bit 4 (.reg .e)
  | .bit4H => .bit 4 (.reg .h)
  | .bit4L => .bit 4 (.reg .l)
  | .bit4AtHl => .bit 4 .atHl
  | .bit4A => .bit 4 (.reg .a)
  | .bit5B => .bit 5 (.reg .b)
  | .bit5C => .bit 5 (.reg .c)
  | .bit5D => .bit 5 (.reg .d)
  | .bit5E => .bit 5 (.reg .e)
  | .bit5H => .bit 5 (.reg .h)
  | .bit5L => .bit 5 (.reg .l)
  | .bit5AtHl => .bit 5 .atHl
  | .bit5A => .bit 5 (.reg .a)
  | .bit6B => .bit 6 (.reg .b)
  | .bit6C => .bit 6 (.reg .c)
  | .bit6D => .bit 6 (.reg .d)
  | .bit6E => .bit 6 (.reg .e)
  | .bit6H => .bit 6 (.reg .h)
  | .bit6L => .bit 6 (.reg .l)
  | .bit6AtHl => .bit 6 .atHl
  | .bit6A => .bit 6 (.reg .a)
  | .bit7B => .bit 7 (.reg .b)
  | .bit7C => .bit 7 (.reg .c)
  | .bit7D => .bit 7 (.reg .d)
  | .bit7E => .bit 7 (.reg .e)
  | .bit7H => .bit 7 (.reg .h)
  | .bit7L => .bit 7 (.reg .l)
  | .bit7AtHl => .bit 7 .atHl
  | .bit7A => .bit 7 (.reg .a)
  | .res0B => .res 0 (.reg .b)
  | .res0C => .res 0 (.reg .c)
  | .res0D => .res 0 (.reg .d)
  | .res0E => .res 0 (.reg .e)
  | .res0H => .res 0 (.reg .h)
  | .res0L => .res 0 (.reg .l)
  | .res0AtHl => .res 0 .atHl
  | .res0A => .res 0 (.reg .a)
  | .res1B => .res 1 (.reg .b)
  | .res1C => .res 1 (.reg .c)
  | .res1D => .res 1 (.reg .d)
  | .res1E => .res 1 (.reg .e)
  | .res1H => .res 1 (.reg .h)
  | .res1L => .res 1 (.reg .l)
  | .res1AtHl => .res 1 .atHl
  | .res1A => .res 1 (.reg .a)
  | .res2B => .res 2 (.reg .b)
  | .res2C => .res 2 (.reg .c)
  | .res2D => .res 2 (.reg .d)
  | .res2E => .res 2 (.reg .e)
  | .res2H => .res 2 (.reg .h)
  | .res2L => .res 2 (.reg .l)
  | .res2AtHl => .res 2 .atHl
  | .res2A => .res 2 (.reg .a)
  | .res3B => .res 3 (.reg .b)
  | .res3C => .res 3 (.reg .c)
  | .res3D => .res 3 (.reg .d)
  | .res3E => .res 3 (.reg .e)
  | .res3H => .res 3 (.reg .h)
  | .res3L => .res 3 (.reg .l)
  | .res3AtHl => .res 3 .atHl
  | .res3A => .res 3 (.reg .a)
  | .res4B => .res 4 (.reg .b)
  | .res4C => .res 4 (.reg .c)
  | .res4D => .res 4 (.reg .d)
  | .res4E => .res 4 (.reg .e)
  | .res4H => .res 4 (.reg .h)
  | .res4L => .res 4 (.reg .l)
  | .res4AtHl => .res 4 .atHl
  | .res4A => .res 4 (.reg .a)
  | .res5B => .res 5 (.reg .b)
  | .res5C => .res 5 (.reg .c)
  | .res5D => .res 5 (.reg .d)
  | .res5E => .res 5 (.reg .e)
  | .res5H => .res 5 (.reg .h)
  | .res5L => .res 5 (.reg .l)
  | .res5AtHl => .res 5 .atHl
  | .res5A => .res 5 (.reg .a)
  | .res6B => .res 6 (.reg .b)
  | .res6C => .res 6 (.reg .c)
  | .res6D => .res 6 (.reg .d)
  | .res6E => .res 6 (.reg .e)
  | .res6H => .res 6 (.reg .h)
  | .res6L => .res 6 (.reg .l)
  | .res6AtHl => .res 6 .atHl
  | .res6A => .res 6 (.reg .a)
  | .res7B => .res 7 (.reg .b)
  | .res7C => .res 7 (.reg .c)
  | .res7D => .res 7 (.reg .d)
  | .res7E => .res 7 (.reg .e)
  | .res7H => .res 7 (.reg .h)
  | .res7L => .res 7 (.reg .l)
  | .res7AtHl => .res 7 .atHl
  | .res7A => .res 7 (.reg .a)
  | .set0B => .set 0 (.reg .b)
  | .set0C => .set 0 (.reg .c)
  | .set0D => .set 0 (.reg .d)
  | .set0E => .set 0 (.reg .e)
  | .set0H => .set 0 (.reg .h)
  | .set0L => .set 0 (.reg .l)
  | .set0AtHl => .set 0 .atHl
  | .set0A => .set 0 (.reg .a)
  | .set1B => .set 1 (.reg .b)
  | .set1C => .set 1 (.reg .c)
  | .set1D => .set 1 (.reg .d)
  | .set1E => .set 1 (.reg .e)
  | .set1H => .set 1 (.reg .h)
  | .set1L => .set 1 (.reg .l)
  | .set1AtHl => .set 1 .atHl
  | .set1A => .set 1 (.reg .a)
  | .set2B => .set 2 (.reg .b)
  | .set2C => .set 2 (.reg .c)
  | .set2D => .set 2 (.reg .d)
  | .set2E => .set 2 (.reg .e)
  | .set2H => .set 2 (.reg .h)
  | .set2L => .set 2 (.reg .l)
  | .set2AtHl => .set 2 .atHl
  | .set2A => .set 2 (.reg .a)
  | .set3B => .set 3 (.reg .b)
  | .set3C => .set 3 (.reg .c)
  | .set3D => .set 3 (.reg .d)
  | .set3E => .set 3 (.reg .e)
  | .set3H => .set 3 (.reg .h)
  | .set3L => .set 3 (.reg .l)
  | .set3AtHl => .set 3 .atHl
  | .set3A => .set 3 (.reg .a)
  | .set4B => .set 4 (.reg .b)
  | .set4C => .set 4 (.reg .c)
  | .set4D => .set 4 (.reg .d)
  | .set4E => .set 4 (.reg .e)
  | .set4H => .set 4 (.reg .h)
  | .set4L => .set 4 (.reg .l)
  | .set4AtHl => .set 4 .atHl
  | .set4A => .set 4 (.reg .a)
  | .set5B => .set 5 (.reg .b)
  | .set5C => .set 5 (.reg .c)
  | .set5D => .set 5 (.reg .d)
  | .set5E => .set 5 (.reg .e)
  | .set5H => .set 5 (.reg .h)
  | .set5L => .set 5 (.reg .l)
  | .set5AtHl => .set 5 .atHl
  | .set5A => .set 5 (.reg .a)
  | .set6B => .set 6 (.reg .b)
  | .set6C => .set 6 (.reg .c)
  | .set6D => .set 6 (.reg .d)
  | .set6E => .set 6 (.reg .e)
  | .set6H => .set 6 (.reg .h)
  | .set6L => .set 6 (.reg .l)
  | .set6AtHl => .set 6 .atHl
  | .set6A => .set 6 (.reg .a)
  | .set7B => .set 7 (.reg .b)
  | .set7C => .set 7 (.reg .c)
  | .set7D => .set 7 (.reg .d)
  | .set7E => .set 7 (.reg .e)
  | .set7H => .set 7 (.reg .h)
  | .set7L => .set 7 (.reg .l)
  | .set7AtHl => .set 7 .atHl
  | .set7A => .set 7 (.reg .a)

end Sys2Proof
end

