-- ==== Sys2Proof/Machine/State.lean ====
section
/-! DEFINITION. The architectural state of one core instance: exactly the tuple of R20, as plain data, its value at
power-on (R360 to R365), and the reasons a step can stop. The spec leaves no register value open at power-on
(R34, R366), so no reset value here is the model's own. -/

namespace Sys2Proof.Machine

/-- The memory as plain data: (address, byte) pairs in the one canonical form `Memory.wf` of Machine/Ops.lean.
An address that is not listed reads as `Config.memoryReset` (R50, R363). DESIGN CHOICE of form only, safe: log entry 2. -/
abbrev Memory := List Host.Cell

/-- The execution state consumed by the Execution Driver (R30, R340). -/
inductive Mode where
  /-- The only mode in which a step executes an instruction. -/
  | running
  /-- Entered by HALT (R301), left only by a seam action (R330, R331). -/
  | halted
  /-- Entered by STOP (R302), left only by a seam action (R330, R331). -/
  | stopped
deriving DecidableEq, Repr

/-- The two typed failures of the core (R320). A failing step changes nothing (R130, R323): the outcome carries no
state because the state after the failure is the state before the step, and the run ends there (R339). -/
inductive Fault where
  /-- Raised by a step whose base opcode has no table entry, with the opcode byte and its address (R131, R305, R321).
  Safe against the chip: the model stops where the chip locks up (92_eei_decisions.md D19). -/
  | unimplementedOpcode (opcode : Byte) (address : Word)
  /-- Raised by a bus access outside 0..0xFFFF, with the address attempted, an integer (R51, R52, R322): by a step for
  an instruction byte or the second byte of LD (a16),SP at 0x10000, and by a host access (R68).
  Safe against the chip: the model stops where the chip wraps to 0x0000 (92_eei_decisions.md D3, D4). -/
  | outOfRangeAddress (address : Int)
deriving DecidableEq, Repr

/-- The reasons the model has no meaning for an instruction. -/
inductive Refusal where
  /-- Raised by an arm of `exec` whose instruction has no meaning yet, by its mnemonic in spec/opcode_table.json.
  Safe: nothing is claimed of such an instruction. Every instruction of this model has its meaning, so no arm raises it. -/
  | notModelled (mnemonic : String)
deriving DecidableEq, Repr

/-- The architectural state of R20, and nothing else. -/
structure State where
  /-- A, the accumulator (R21). -/
  a : Byte
  /-- F, the flags register: Z, N, H, C in bits 7..4, bits 3..0 always 0 (R25, R26). -/
  f : Byte
  /-- B (R21). -/
  b : Byte
  /-- C (R21). -/
  c : Byte
  /-- D (R21). -/
  d : Byte
  /-- E (R21). -/
  e : Byte
  /-- H (R21). -/
  h : Byte
  /-- L (R21). -/
  l : Byte
  /-- SP, one 16-bit register (R24). -/
  sp : Word
  /-- PC, the address of the first byte of the instruction to execute (R28). -/
  pc : Word
  /-- The execution state (R30). -/
  mode : Mode
  /-- IME, the interrupt master enable (R29). -/
  ime : Bool
  /-- The 65,536 bytes of memory (R50). -/
  mem : Memory
deriving DecidableEq, Repr

/-- The state at power-on: every register and every memory byte 0, Running, interrupts disabled
(R360 to R365). -/
def State.reset : State :=
  { a := 0, f := 0, b := 0, c := 0, d := 0, e := 0, h := 0, l := 0
    sp := 0, pc := 0, mode := .running, ime := false, mem := [] }

end Sys2Proof.Machine
end

