-- ==== Sys2Proof/Machine/Flags.lean ====
section
/-! DEFINITION. The flags register and every result and flag computation of the spec: the layout of F (R25, R26),
the ALU functions (R190 to R194), increment and decrement (R220, R222), decimal adjust (R224), the rotate, shift and
swap functions (R240 to R247), the bit operations (R270 to R275), the 16-bit addition (R232) and SP plus
displacement (R172). Sums are taken over the unbounded numbers and narrowed at the end, as R7 says. -/

namespace Sys2Proof.Machine

/-- The four flags (R25). -/
structure Flags where
  /-- Zero, bit 7 of F. -/
  z : Bool
  /-- Subtract, bit 6 of F. -/
  n : Bool
  /-- Half-Carry, bit 5 of F. -/
  h : Bool
  /-- Carry, bit 4 of F. -/
  c : Bool
deriving DecidableEq, Repr

/-- An 8-bit result with the four flags that go with it. -/
structure Result8 where
  /-- The result byte. -/
  val : Byte
  /-- The flags the operation writes. -/
  fl : Flags
deriving DecidableEq, Repr

/-- The byte that holds the four flags, with bits 3..0 zero (R25). -/
def Flags.toByte (fl : Flags) : Byte :=
  BitVec.ofBool fl.z ++ BitVec.ofBool fl.n ++ BitVec.ofBool fl.h ++ BitVec.ofBool fl.c ++ 0#4

/-- The flags a byte in F's layout holds (R25). -/
def Flags.ofByte (v : Byte) : Flags :=
  { z := v.getLsbD 7, n := v.getLsbD 6, h := v.getLsbD 5, c := v.getLsbD 4 }

/-- What a write of `v` to F stores: bits 3..0 are forced to 0 (R26). -/
def maskF (v : Byte) : Byte := v &&& 0xF0

/-- The flags of a state (R25). -/
def State.flags (s : State) : Flags := Flags.ofByte s.f

/-- The one write of F (R26). -/
def State.setF (s : State) (v : Byte) : State := { s with f := maskF v }

/-- Writing the four flags (R8, R25). -/
def State.setFlags (s : State) (fl : Flags) : State := s.setF fl.toByte

/-! ## 8-bit addition and subtraction, logic -/

/-- `Add8` (R190). -/
def add8 (a b : Byte) (cin : Bool) : Result8 :=
  let sum := a.toNat + b.toNat + cin.toNat
  let res := BitVec.ofNat 8 sum
  { val := res
    fl :=
      { z := res == 0
        n := false
        h := decide (a.toNat % 16 + b.toNat % 16 + cin.toNat > 0x0F)
        c := decide (sum > 0xFF) } }

/-- `Sub8` (R191). -/
def sub8 (a b : Byte) (cin : Bool) : Result8 :=
  let diff : Int := a.toNat - b.toNat - cin.toNat
  let res := BitVec.ofInt 8 diff
  { val := res
    fl :=
      { z := res == 0
        n := true
        h := decide (a.toNat % 16 < b.toNat % 16 + cin.toNat)
        c := decide (a.toNat < b.toNat + cin.toNat) } }

/-- `And8` (R192). -/
def and8 (a n : Byte) : Result8 :=
  { val := a &&& n, fl := { z := (a &&& n) == 0, n := false, h := true, c := false } }

/-- `Or8` (R193). -/
def or8 (a n : Byte) : Result8 :=
  { val := a ||| n, fl := { z := (a ||| n) == 0, n := false, h := false, c := false } }

/-- `Xor8` (R194). -/
def xor8 (a n : Byte) : Result8 :=
  { val := a ^^^ n, fl := { z := (a ^^^ n) == 0, n := false, h := false, c := false } }

/-- The accumulator operation of an ALU field on A, an operand and the carry flag (R86, R195). CP's result is that of
SUB; its rule discards it (R217). -/
def alu8 (op : AluOp) (a v : Byte) (carry : Bool) : Result8 :=
  match op with
  | .add => add8 a v false
  | .adc => add8 a v carry
  | .sub => sub8 a v false
  | .sbc => sub8 a v carry
  | .and => and8 a v
  | .xor => xor8 a v
  | .or => or8 a v
  | .cp => sub8 a v false

/-- INC on a byte: carry kept (R220). -/
def inc8 (old : Byte) (fl : Flags) : Result8 :=
  { val := old + 1, fl := { z := old + 1 == 0, n := false, h := (old &&& 0x0F) == 0x0F, c := fl.c } }

/-- DEC on a byte: carry kept (R222). -/
def dec8 (old : Byte) (fl : Flags) : Result8 :=
  { val := old - 1, fl := { z := old - 1 == 0, n := true, h := (old &&& 0x0F) == 0x00, c := fl.c } }

/-- The correction of DAA after an addition, N = 0 (R224): the new accumulator and carry. -/
def daaAfterAdd (a : Byte) (fl : Flags) : Byte × Bool :=
  let high := fl.c || decide (a.toNat > 0x99)
  let a1 := if high then a + 0x60 else a
  let a2 := if fl.h || decide ((a1 &&& 0x0F).toNat > 0x09) then a1 + 0x06 else a1
  (a2, high)

/-- The correction of DAA after a subtraction, N = 1 (R224): the new accumulator and carry. -/
def daaAfterSub (a : Byte) (fl : Flags) : Byte × Bool :=
  let a1 := if fl.c then a - 0x60 else a
  let a2 := if fl.h then a1 - 0x06 else a1
  (a2, fl.c)

/-- DAA: a total function of A, N, H and C; N is kept (R224). -/
def daa8 (a : Byte) (fl : Flags) : Result8 :=
  let r := if fl.n then daaAfterSub a fl else daaAfterAdd a fl
  { val := r.1, fl := { z := r.1 == 0, n := fl.n, h := false, c := r.2 } }

/-- CPL: Z and C kept (R225). -/
def cpl8 (a : Byte) (fl : Flags) : Result8 :=
  { val := ~~~a, fl := { z := fl.z, n := true, h := true, c := fl.c } }

/-- The flags SCF writes (R226). -/
def scfFlags (fl : Flags) : Flags := { z := fl.z, n := false, h := false, c := true }

/-- The flags CCF writes (R227). -/
def ccfFlags (fl : Flags) : Flags := { z := fl.z, n := false, h := false, c := !fl.c }

/-! ## Rotates, shifts and bits: each function gives the result and the bit shifted out -/

/-- The byte 0 or 1 of a carry. -/
def carryBit (c : Bool) : Byte := if c then 1 else 0

/-- `RotLC` (R240). -/
def rotLC (v : Byte) : Byte × Bool := ((v <<< 1) ||| carryBit (v.getLsbD 7), v.getLsbD 7)

/-- `RotRC` (R241). -/
def rotRC (v : Byte) : Byte × Bool := ((v >>> 1) ||| (carryBit (v.getLsbD 0) <<< 7), v.getLsbD 0)

/-- `RotL` (R242). -/
def rotL (v : Byte) (cin : Bool) : Byte × Bool := ((v <<< 1) ||| carryBit cin, v.getLsbD 7)

/-- `RotR` (R243). -/
def rotR (v : Byte) (cin : Bool) : Byte × Bool := ((v >>> 1) ||| (carryBit cin <<< 7), v.getLsbD 0)

/-- `ShL` (R244). -/
def shL (v : Byte) : Byte × Bool := (v <<< 1, v.getLsbD 7)

/-- `ShRA` (R245). -/
def shRA (v : Byte) : Byte × Bool := ((v >>> 1) ||| (v &&& 0x80), v.getLsbD 0)

/-- `ShRL` (R246). -/
def shRL (v : Byte) : Byte × Bool := (v >>> 1, v.getLsbD 0)

/-- `Swap` (R247); its carry out is 0. -/
def swapNibbles (v : Byte) : Byte × Bool := (((v &&& 0x0F) <<< 4) ||| (v >>> 4), false)

/-- The function a rotate or shift of the extended space applies, with the carry flag as its carry-in
(R91, R252 to R267). -/
def rotate8 (op : RotOp) (v : Byte) (carry : Bool) : Byte × Bool :=
  match op with
  | .rlc => rotLC v
  | .rrc => rotRC v
  | .rl => rotL v carry
  | .rr => rotR v carry
  | .sla => shL v
  | .sra => shRA v
  | .swap => swapNibbles v
  | .srl => shRL v

/-- The flags an extended rotate or shift writes: Z from the result, N = H = 0, C the bit shifted out
(section 3 of 45_rotate_shift.md, R252 to R267). -/
def rotFlags (r : Byte × Bool) : Flags := { z := r.1 == 0, n := false, h := false, c := r.2 }

/-- The flags an accumulator rotate of the base space writes: Z = N = H = 0 (R248 to R251). -/
def accRotFlags (r : Byte × Bool) : Flags := { z := false, n := false, h := false, c := r.2 }

/-- The flags BIT writes: Z when the tested bit is 0, N = 0, H = 1, C kept (R270, R271). -/
def bitFlags (b : BitVec 3) (v : Byte) (fl : Flags) : Flags :=
  { z := !v.getLsbD b.toNat, n := false, h := true, c := fl.c }

/-- RES on a byte (R272). -/
def resetBit (b : BitVec 3) (v : Byte) : Byte := v &&& ~~~((1 : Byte) <<< b.toNat)

/-- SET on a byte (R274). -/
def setBit (b : BitVec 3) (v : Byte) : Byte := v ||| ((1 : Byte) <<< b.toNat)

/-! ## 16-bit additions -/

/-- The sum ADD HL,rp stores (R232). -/
def add16 (hl v : Word) : Word := BitVec.ofNat 16 (hl.toNat + v.toNat)

/-- The flags ADD HL,rp writes: Z kept, N = 0, H out of bit 11, C out of bit 15 (R232). -/
def add16Flags (hl v : Word) (fl : Flags) : Flags :=
  { z := fl.z
    n := false
    h := decide (hl.toNat % 0x1000 + v.toNat % 0x1000 > 0x0FFF)
    c := decide (hl.toNat + v.toNat > 0xFFFF) }

/-- The 16-bit value `SPAdd` returns (R172). -/
def spAdd (sp : Word) (e : Byte) : Word := sp + sext16 e

/-- The flags `SPAdd` returns, from the unsigned sum of the low bytes (R172). -/
def spAddFlags (sp : Word) (e : Byte) : Flags :=
  { z := false
    n := false
    h := decide (sp.toNat % 16 + e.toNat % 16 > 0x0F)
    c := decide (sp.toNat % 256 + e.toNat > 0xFF) }

end Sys2Proof.Machine
end

