-- ==== Sys2Proof/Machine/Ops.lean ====
section
/-! DEFINITION. The named operations over memory and registers that every meaning is built from: the memory and its
canonical form (R50 to R53), the bus with its failure (R51, R52), registers, pair views and SP (R21 to R24), the stack
(R170, R171), the PC advance (R128), the failure of a step (R9, R320, R324), and interrupt entry, wake-up and the return from a
handler (R330, R331, R290). -/

namespace Sys2Proof.Machine

/-- What a meaning answers. -/
abbrev Result := Host.Outcome State Fault Refusal

/-! ## The memory list -/

/-- The byte at an address: the listed one, else the power-on byte (R50, R61, R363). -/
def Memory.read : Memory → Nat → Byte
  | [], _ => Config.memoryReset
  | (k, v) :: rest, a => if a = k then v else Memory.read rest a

/-- Storing a byte keeps the list in canonical form: sorted by address, with no entry for a byte that has its
power-on value (R52). -/
def Memory.write : Memory → Nat → Byte → Memory
  | [], a, v => if v = Config.memoryReset then [] else [(a, v)]
  | (k, w) :: rest, a, v =>
    if a < k then
      if v = Config.memoryReset then (k, w) :: rest else (a, v) :: (k, w) :: rest
    else if a = k then
      if v = Config.memoryReset then rest else (a, v) :: rest
    else (k, w) :: Memory.write rest a v

/-- The canonical form from an address on: addresses strictly rising from `low` and inside the address space, no
entry equal to the power-on byte. -/
def Memory.wfFrom : Nat → Memory → Bool
  | _, [] => true
  | low, (k, v) :: rest =>
    decide (low ≤ k) && decide (k ≤ Config.topAddress) && (v != Config.memoryReset)
      && Memory.wfFrom (k + 1) rest

/-- The canonical form of a memory: two memories in this form that read alike everywhere are equal lists. -/
def Memory.wf (m : Memory) : Bool := Memory.wfFrom 0 m

/-! ## The bus -/

/-- A bus read of one byte at a 16-bit address, which cannot fail (R51, R53). -/
def State.read (s : State) (a : Word) : Byte := s.mem.read a.toNat

/-- A bus write of one byte at a 16-bit address, which cannot fail (R52, R53). -/
def State.write (s : State) (a : Word) (v : Byte) : State := { s with mem := s.mem.write a.toNat v }

/-- Whether an integer is an address of the space (R51). -/
def inAddressSpace (a : Int) : Bool := decide (0 ≤ a) && decide (a.toNat ≤ Config.topAddress)

/-- `MemRead(address, 1)` for any integer address (R51). -/
def State.busRead (s : State) (a : Int) : Except Fault Byte :=
  if inAddressSpace a then .ok (s.read (BitVec.ofNat 16 a.toNat)) else .error (.outOfRangeAddress a)

/-- `MemWrite(address, 1, v)` for any integer address (R52). -/
def State.busWrite (s : State) (a : Int) (v : Byte) : Except Fault State :=
  if inAddressSpace a then .ok (s.write (BitVec.ofNat 16 a.toNat) v)
  else .error (.outOfRangeAddress a)

/-- `MemWrite(addr, 2, v)`: the second address is checked, without wrap, before either byte is written; the low byte
lies at the lower address (R54, R55). -/
def State.busWrite16 (s : State) (a v : Word) : Except Fault State :=
  if a.toNat + 1 > Config.topAddress then .error (.outOfRangeAddress (a.toNat + 1 : Nat))
  else .ok ((s.write a (loByte v)).write (a + 1) (hiByte v))

/-! ## Registers and pairs -/

/-- `x[r]` (R8, R21). -/
def State.reg (s : State) : Reg8 → Byte
  | .a => s.a | .b => s.b | .c => s.c | .d => s.d | .e => s.e | .h => s.h | .l => s.l

/-- `x[r] <- v` (R8, R21). -/
def State.setReg (s : State) (r : Reg8) (v : Byte) : State :=
  match r with
  | .a => { s with a := v }
  | .b => { s with b := v }
  | .c => { s with c := v }
  | .d => { s with d := v }
  | .e => { s with e := v }
  | .h => { s with h := v }
  | .l => { s with l := v }

/-- The pair view BC (R22). -/
def State.bc (s : State) : Word := joinBytes s.b s.c

/-- The pair view DE (R22). -/
def State.de (s : State) : Word := joinBytes s.d s.e

/-- The pair view HL (R22). -/
def State.hl (s : State) : Word := joinBytes s.h s.l

/-- The pair view AF (R22). -/
def State.af (s : State) : Word := joinBytes s.a s.f

/-- Writing HL (R23). -/
def State.setHl (s : State) (v : Word) : State := { s with h := hiByte v, l := loByte v }

/-- `x[rp]`, SP included (R8, R22, R24). -/
def State.pair (s : State) : Pair → Word
  | .bc => s.bc
  | .de => s.de
  | .hl => s.hl
  | .sp => s.sp

/-- `x[rp] <- v`, SP included (R8, R23, R24). -/
def State.setPair (s : State) (rp : Pair) (v : Word) : State :=
  match rp with
  | .bc => { s with b := hiByte v, c := loByte v }
  | .de => { s with d := hiByte v, e := loByte v }
  | .hl => s.setHl v
  | .sp => { s with sp := v }

/-- `x[rp2]` (R8, R22, R84). -/
def State.stackPair (s : State) : StackPair → Word
  | .bc => s.bc
  | .de => s.de
  | .hl => s.hl
  | .af => s.af

/-- `x[rp2] <- v`; the low byte of AF is written to F, which keeps only bits 7..4 (R23, R26). -/
def State.setStackPair (s : State) (rp2 : StackPair) (v : Word) : State :=
  match rp2 with
  | .bc => { s with b := hiByte v, c := loByte v }
  | .de => { s with d := hiByte v, e := loByte v }
  | .hl => s.setHl v
  | .af => { s with a := hiByte v }.setF (loByte v)

/-! ## The stack -/

/-- `Push16`: high byte at SP - 1, low byte at SP - 2, addresses wrapping (R170). -/
def State.push16 (s : State) (v : Word) : State :=
  { (s.write (s.sp - 1) (hiByte v)).write (s.sp - 2) (loByte v) with sp := s.sp - 2 }

/-- The value `Pop16` returns: low byte at SP, high byte at SP + 1, addresses wrapping (R171). -/
def State.top16 (s : State) : Word := joinBytes (s.read (s.sp + 1)) (s.read s.sp)

/-- The state `Pop16` leaves: SP two higher, memory as it was (R171). -/
def State.drop16 (s : State) : State := { s with sp := s.sp + 2 }

/-! ## The end of an instruction -/

/-- `npc`: the address after an instruction of `len` bytes, reduced modulo 2^16 (R9, R128). -/
def State.nextPc (s : State) (len : Nat) : Word := s.pc + BitVec.ofNat 16 len

/-- `pc <- target` (R8, R128). -/
def State.jump (s : State) (target : Word) : State := { s with pc := target }

/-- The common advance of an instruction of `len` bytes that writes no target (R128). -/
def State.advance (s : State) (len : Nat) : State := s.jump (s.nextPc len)

/-- Finishing an instruction of `len` bytes whose effect on the rest of the state is `s` (R127, R128). -/
def retire (len : Nat) (s : State) : Result := .next (s.advance len)

/-! ## Failures, interrupt entry, wake-up and return -/

/-- `raise Failure`: the step ends at once with the failure, saves nothing, changes nothing and vectors nowhere
(R9, R320, R324). -/
def raise (f : Fault) : Result := .fault f

/-- Interrupt entry, the seam action `Enter(vector)`: IME cleared, Running, PC pushed, PC at the vector (R330). -/
def State.enterInterrupt (s : State) (vector : Word) : State :=
  ({ s with ime := false, mode := .running }.push16 s.pc).jump vector

/-- Return from a handler: PC popped, IME set, no flag or register restored (R290, R332). -/
def State.returnFromInterrupt (s : State) : State := { s.drop16.jump s.top16 with ime := true }

/-- The seam action `Wake()`: mode Running, nothing else (R331). -/
def State.wake (s : State) : State := { s with mode := .running }

end Sys2Proof.Machine
end

