-- ==== Sys2Proof/Machine/Operands.lean ====
section
/-! DEFINITION. The operand forms: the eight operand locations of the r field (R82), the addresses of the
accumulator loads and stores (R89, R145 to R158), the target of a relative jump (R88, R284), the target of RST (R291) and the four
conditions (R280). -/

namespace Sys2Proof.Machine

/-- The value of an operand location: a register, or the byte at HL (R82). -/
def State.loc (s : State) : Loc → Byte
  | .reg r => s.reg r
  | .atHl => s.read s.hl

/-- Writing an operand location (R82). -/
def State.setLoc (s : State) (l : Loc) (v : Byte) : State :=
  match l with
  | .reg r => s.setReg r v
  | .atHl => s.write s.hl v

/-- The high-page address of an offset: 0xFF00 + offset (R89). -/
def highAddress (offset : Byte) : Word := Config.highPage + offset.zeroExtend 16

/-- The address a one-byte accumulator load or store uses (R145 to R148, R153 to R158). -/
def State.accAddress (s : State) : AccAddr → Word
  | .bc => s.bc
  | .de => s.de
  | .hlInc => s.hl
  | .hlDec => s.hl
  | .highC => highAddress s.c

/-- What such an access does to HL afterwards: the post-increment or post-decrement, wrapping (R155 to R158). -/
def State.stepAccAddress (s : State) : AccAddr → State
  | .bc => s
  | .de => s
  | .hlInc => s.setHl (s.hl + 1)
  | .hlDec => s.setHl (s.hl - 1)
  | .highC => s

/-- `cond(cc)`, read from F at the start of the instruction (R85, R280). -/
def State.cond (s : State) : Cond → Bool
  | .nz => !s.flags.z
  | .z => s.flags.z
  | .nc => !s.flags.c
  | .c => s.flags.c

/-- The target of a relative jump: the address after the two-byte instruction plus the signed displacement, wrapping
(R88, R284). -/
def State.relTarget (s : State) (e8 : Byte) : Word := s.nextPc 2 + sext16 e8

/-- The target of RST: 8 times the field y (R291). -/
def rstTarget (y : BitVec 3) : Word := y.zeroExtend 16 <<< 3

end Sys2Proof.Machine
end

