-- ==== Sys2Proof/Machine/Alu16.lean ====
section
/-! DEFINITION. The 16-bit arithmetic (R230 to R233); every sum wraps modulo 2^16. -/

namespace Sys2Proof.Machine

/-- INC rp: no flag is written (R230). -/
def incPair (rp : Pair) (s : State) : Result := retire 1 (s.setPair rp (s.pair rp + 1))

/-- DEC rp: no flag is written (R231). -/
def decPair (rp : Pair) (s : State) : Result := retire 1 (s.setPair rp (s.pair rp - 1))

/-- ADD HL,rp: Z is kept (R232). -/
def addHl (rp : Pair) (s : State) : Result :=
  retire 1 ((s.setHl (add16 s.hl (s.pair rp))).setFlags (add16Flags s.hl (s.pair rp) s.flags))

/-- ADD SP,e8 (R233). -/
def addSp (e8 : Byte) (s : State) : Result :=
  retire 2 ({ s with sp := spAdd s.sp e8 }.setFlags (spAddFlags s.sp e8))

/-- `INC BC` (R230). -/
def execIncBc (s : State) : Result := incPair .bc s

/-- `ADD HL,BC` (R232). -/
def execAddHlBc (s : State) : Result := addHl .bc s

/-- `DEC BC` (R231). -/
def execDecBc (s : State) : Result := decPair .bc s

/-- `INC DE` (R230). -/
def execIncDe (s : State) : Result := incPair .de s

/-- `ADD HL,DE` (R232). -/
def execAddHlDe (s : State) : Result := addHl .de s

/-- `DEC DE` (R231). -/
def execDecDe (s : State) : Result := decPair .de s

/-- `INC HL` (R230). -/
def execIncHl (s : State) : Result := incPair .hl s

/-- `ADD HL,HL` (R232). -/
def execAddHlHl (s : State) : Result := addHl .hl s

/-- `DEC HL` (R231). -/
def execDecHl (s : State) : Result := decPair .hl s

/-- `INC SP` (R230). -/
def execIncSp (s : State) : Result := incPair .sp s

/-- `ADD HL,SP` (R232). -/
def execAddHlSp (s : State) : Result := addHl .sp s

/-- `DEC SP` (R231). -/
def execDecSp (s : State) : Result := decPair .sp s

/-- `ADD SP,e8` (R233). -/
def execAddSpE8 (e8 : Byte) (s : State) : Result := addSp e8 s

end Sys2Proof.Machine
end

