-- ==== Sys2Proof/Machine/Alu8.lean ====
section
/-! DEFINITION. The 8-bit arithmetic and logic (R195 to R227): the eight accumulator operations on a register, the
byte at HL or an immediate, INC and DEC, DAA, CPL, SCF and CCF. -/

namespace Sys2Proof.Machine

/-- Writing the result of an accumulator operation on the operand `v`: A and the four flags, and for CP the flags
alone (R195, R217). -/
def State.accumulate (s : State) (op : AluOp) (v : Byte) : State :=
  let r := alu8 op s.a v s.flags.c
  match op with
  | .cp => s.setFlags r.fl
  | _ => (s.setReg .a r.val).setFlags r.fl

/-- An accumulator operation on a register or the byte at HL (R195 to R218). -/
def aluLoc (op : AluOp) (src : Loc) (s : State) : Result := retire 1 (s.accumulate op (s.loc src))

/-- An accumulator operation on an immediate (R195, R198 to R219). -/
def aluImm (op : AluOp) (d8 : Byte) (s : State) : Result := retire 2 (s.accumulate op d8)

/-- INC r; INC (HL) (R220, R221). -/
def incLoc (dst : Loc) (s : State) : Result :=
  let r := inc8 (s.loc dst) s.flags
  retire 1 ((s.setLoc dst r.val).setFlags r.fl)

/-- DEC r; DEC (HL) (R222, R223). -/
def decLoc (dst : Loc) (s : State) : Result :=
  let r := dec8 (s.loc dst) s.flags
  retire 1 ((s.setLoc dst r.val).setFlags r.fl)

/-- Rewriting A and the four flags by a function of both, for DAA and CPL (R224, R225). -/
def adjustAcc (f : Byte → Flags → Result8) (s : State) : Result :=
  let r := f s.a s.flags
  retire 1 ((s.setReg .a r.val).setFlags r.fl)

/-- `INC B` (R220). -/
def execIncB (s : State) : Result := incLoc (.reg .b) s

/-- `DEC B` (R222). -/
def execDecB (s : State) : Result := decLoc (.reg .b) s

/-- `INC C` (R220). -/
def execIncC (s : State) : Result := incLoc (.reg .c) s

/-- `DEC C` (R222). -/
def execDecC (s : State) : Result := decLoc (.reg .c) s

/-- `INC D` (R220). -/
def execIncD (s : State) : Result := incLoc (.reg .d) s

/-- `DEC D` (R222). -/
def execDecD (s : State) : Result := decLoc (.reg .d) s

/-- `INC E` (R220). -/
def execIncE (s : State) : Result := incLoc (.reg .e) s

/-- `DEC E` (R222). -/
def execDecE (s : State) : Result := decLoc (.reg .e) s

/-- `INC H` (R220). -/
def execIncH (s : State) : Result := incLoc (.reg .h) s

/-- `DEC H` (R222). -/
def execDecH (s : State) : Result := decLoc (.reg .h) s

/-- `DAA` (R224). -/
def execDaa (s : State) : Result := adjustAcc daa8 s

/-- `INC L` (R220). -/
def execIncL (s : State) : Result := incLoc (.reg .l) s

/-- `DEC L` (R222). -/
def execDecL (s : State) : Result := decLoc (.reg .l) s

/-- `CPL` (R225). -/
def execCpl (s : State) : Result := adjustAcc cpl8 s

/-- `INC (HL)` (R221). -/
def execIncAtHl (s : State) : Result := incLoc .atHl s

/-- `DEC (HL)` (R223). -/
def execDecAtHl (s : State) : Result := decLoc .atHl s

/-- `SCF` (R226). -/
def execScf (s : State) : Result := retire 1 (s.setFlags (scfFlags s.flags))

/-- `INC A` (R220). -/
def execIncA (s : State) : Result := incLoc (.reg .a) s

/-- `DEC A` (R222). -/
def execDecA (s : State) : Result := decLoc (.reg .a) s

/-- `CCF` (R227). -/
def execCcf (s : State) : Result := retire 1 (s.setFlags (ccfFlags s.flags))

/-- `ADD A,B` (R196). -/
def execAddAB (s : State) : Result := aluLoc .add (.reg .b) s

/-- `ADD A,C` (R196). -/
def execAddAC (s : State) : Result := aluLoc .add (.reg .c) s

/-- `ADD A,D` (R196). -/
def execAddAD (s : State) : Result := aluLoc .add (.reg .d) s

/-- `ADD A,E` (R196). -/
def execAddAE (s : State) : Result := aluLoc .add (.reg .e) s

/-- `ADD A,H` (R196). -/
def execAddAH (s : State) : Result := aluLoc .add (.reg .h) s

/-- `ADD A,L` (R196). -/
def execAddAL (s : State) : Result := aluLoc .add (.reg .l) s

/-- `ADD A,(HL)` (R197). -/
def execAddAAtHl (s : State) : Result := aluLoc .add .atHl s

/-- `ADD A,A` (R196). -/
def execAddAA (s : State) : Result := aluLoc .add (.reg .a) s

/-- `ADC A,B` (R199). -/
def execAdcAB (s : State) : Result := aluLoc .adc (.reg .b) s

/-- `ADC A,C` (R199). -/
def execAdcAC (s : State) : Result := aluLoc .adc (.reg .c) s

/-- `ADC A,D` (R199). -/
def execAdcAD (s : State) : Result := aluLoc .adc (.reg .d) s

/-- `ADC A,E` (R199). -/
def execAdcAE (s : State) : Result := aluLoc .adc (.reg .e) s

/-- `ADC A,H` (R199). -/
def execAdcAH (s : State) : Result := aluLoc .adc (.reg .h) s

/-- `ADC A,L` (R199). -/
def execAdcAL (s : State) : Result := aluLoc .adc (.reg .l) s

/-- `ADC A,(HL)` (R200). -/
def execAdcAAtHl (s : State) : Result := aluLoc .adc .atHl s

/-- `ADC A,A` (R199). -/
def execAdcAA (s : State) : Result := aluLoc .adc (.reg .a) s

/-- `SUB B` (R202). -/
def execSubB (s : State) : Result := aluLoc .sub (.reg .b) s

/-- `SUB C` (R202). -/
def execSubC (s : State) : Result := aluLoc .sub (.reg .c) s

/-- `SUB D` (R202). -/
def execSubD (s : State) : Result := aluLoc .sub (.reg .d) s

/-- `SUB E` (R202). -/
def execSubE (s : State) : Result := aluLoc .sub (.reg .e) s

/-- `SUB H` (R202). -/
def execSubH (s : State) : Result := aluLoc .sub (.reg .h) s

/-- `SUB L` (R202). -/
def execSubL (s : State) : Result := aluLoc .sub (.reg .l) s

/-- `SUB (HL)` (R203). -/
def execSubAtHl (s : State) : Result := aluLoc .sub .atHl s

/-- `SUB A` (R202). -/
def execSubA (s : State) : Result := aluLoc .sub (.reg .a) s

/-- `SBC A,B` (R205). -/
def execSbcAB (s : State) : Result := aluLoc .sbc (.reg .b) s

/-- `SBC A,C` (R205). -/
def execSbcAC (s : State) : Result := aluLoc .sbc (.reg .c) s

/-- `SBC A,D` (R205). -/
def execSbcAD (s : State) : Result := aluLoc .sbc (.reg .d) s

/-- `SBC A,E` (R205). -/
def execSbcAE (s : State) : Result := aluLoc .sbc (.reg .e) s

/-- `SBC A,H` (R205). -/
def execSbcAH (s : State) : Result := aluLoc .sbc (.reg .h) s

/-- `SBC A,L` (R205). -/
def execSbcAL (s : State) : Result := aluLoc .sbc (.reg .l) s

/-- `SBC A,(HL)` (R206). -/
def execSbcAAtHl (s : State) : Result := aluLoc .sbc .atHl s

/-- `SBC A,A` (R205). -/
def execSbcAA (s : State) : Result := aluLoc .sbc (.reg .a) s

/-- `AND B` (R208). -/
def execAndB (s : State) : Result := aluLoc .and (.reg .b) s

/-- `AND C` (R208). -/
def execAndC (s : State) : Result := aluLoc .and (.reg .c) s

/-- `AND D` (R208). -/
def execAndD (s : State) : Result := aluLoc .and (.reg .d) s

/-- `AND E` (R208). -/
def execAndE (s : State) : Result := aluLoc .and (.reg .e) s

/-- `AND H` (R208). -/
def execAndH (s : State) : Result := aluLoc .and (.reg .h) s

/-- `AND L` (R208). -/
def execAndL (s : State) : Result := aluLoc .and (.reg .l) s

/-- `AND (HL)` (R209). -/
def execAndAtHl (s : State) : Result := aluLoc .and .atHl s

/-- `AND A` (R208). -/
def execAndA (s : State) : Result := aluLoc .and (.reg .a) s

/-- `XOR B` (R211). -/
def execXorB (s : State) : Result := aluLoc .xor (.reg .b) s

/-- `XOR C` (R211). -/
def execXorC (s : State) : Result := aluLoc .xor (.reg .c) s

/-- `XOR D` (R211). -/
def execXorD (s : State) : Result := aluLoc .xor (.reg .d) s

/-- `XOR E` (R211). -/
def execXorE (s : State) : Result := aluLoc .xor (.reg .e) s

/-- `XOR H` (R211). -/
def execXorH (s : State) : Result := aluLoc .xor (.reg .h) s

/-- `XOR L` (R211). -/
def execXorL (s : State) : Result := aluLoc .xor (.reg .l) s

/-- `XOR (HL)` (R212). -/
def execXorAtHl (s : State) : Result := aluLoc .xor .atHl s

/-- `XOR A` (R211). -/
def execXorA (s : State) : Result := aluLoc .xor (.reg .a) s

/-- `OR B` (R214). -/
def execOrB (s : State) : Result := aluLoc .or (.reg .b) s

/-- `OR C` (R214). -/
def execOrC (s : State) : Result := aluLoc .or (.reg .c) s

/-- `OR D` (R214). -/
def execOrD (s : State) : Result := aluLoc .or (.reg .d) s

/-- `OR E` (R214). -/
def execOrE (s : State) : Result := aluLoc .or (.reg .e) s

/-- `OR H` (R214). -/
def execOrH (s : State) : Result := aluLoc .or (.reg .h) s

/-- `OR L` (R214). -/
def execOrL (s : State) : Result := aluLoc .or (.reg .l) s

/-- `OR (HL)` (R215). -/
def execOrAtHl (s : State) : Result := aluLoc .or .atHl s

/-- `OR A` (R214). -/
def execOrA (s : State) : Result := aluLoc .or (.reg .a) s

/-- `CP B` (R217). -/
def execCpB (s : State) : Result := aluLoc .cp (.reg .b) s

/-- `CP C` (R217). -/
def execCpC (s : State) : Result := aluLoc .cp (.reg .c) s

/-- `CP D` (R217). -/
def execCpD (s : State) : Result := aluLoc .cp (.reg .d) s

/-- `CP E` (R217). -/
def execCpE (s : State) : Result := aluLoc .cp (.reg .e) s

/-- `CP H` (R217). -/
def execCpH (s : State) : Result := aluLoc .cp (.reg .h) s

/-- `CP L` (R217). -/
def execCpL (s : State) : Result := aluLoc .cp (.reg .l) s

/-- `CP (HL)` (R218). -/
def execCpAtHl (s : State) : Result := aluLoc .cp .atHl s

/-- `CP A` (R217). -/
def execCpA (s : State) : Result := aluLoc .cp (.reg .a) s

/-- `ADD A,d8` (R198). -/
def execAddAD8 (d8 : Byte) (s : State) : Result := aluImm .add d8 s

/-- `ADC A,d8` (R201). -/
def execAdcAD8 (d8 : Byte) (s : State) : Result := aluImm .adc d8 s

/-- `SUB d8` (R204). -/
def execSubD8 (d8 : Byte) (s : State) : Result := aluImm .sub d8 s

/-- `SBC A,d8` (R207). -/
def execSbcAD8 (d8 : Byte) (s : State) : Result := aluImm .sbc d8 s

/-- `AND d8` (R210). -/
def execAndD8 (d8 : Byte) (s : State) : Result := aluImm .and d8 s

/-- `XOR d8` (R213). -/
def execXorD8 (d8 : Byte) (s : State) : Result := aluImm .xor d8 s

/-- `OR d8` (R216). -/
def execOrD8 (d8 : Byte) (s : State) : Result := aluImm .or d8 s

/-- `CP d8` (R219). -/
def execCpD8 (d8 : Byte) (s : State) : Result := aluImm .cp d8 s

end Sys2Proof.Machine
end

