-- ==== Sys2Proof/Machine/Control.lean ====
section
/-! DEFINITION. The control transfers (R281 to R291). A taken transfer leaves PC at exactly its target, an untaken
one at the next instruction (R128). None writes a flag, and stack accesses wrap, so none can fail. -/

namespace Sys2Proof.Machine

/-- JP a16 and JP HL: `pc <- target` (R281, R283). -/
def jumpTo (target : Word) (s : State) : Result := .next (s.jump target)

/-- JP cc,a16 (R282). -/
def jumpIf (cc : Cond) (a16 : Word) (s : State) : Result :=
  if s.cond cc then .next (s.jump a16) else retire 3 s

/-- JR cc,e8 (R285). -/
def jumpRelIf (cc : Cond) (e8 : Byte) (s : State) : Result :=
  if s.cond cc then .next (s.jump (s.relTarget e8)) else retire 2 s

/-- Pushing the address after an instruction of `len` bytes and jumping (R286, R291). -/
def State.callTo (s : State) (len : Nat) (target : Word) : State :=
  (s.push16 (s.nextPc len)).jump target

/-- CALL cc,a16 (R287). -/
def callIf (cc : Cond) (a16 : Word) (s : State) : Result :=
  if s.cond cc then .next (s.callTo 3 a16) else retire 3 s

/-- Popping PC (R288, R289). -/
def State.returnTo (s : State) : State := s.drop16.jump s.top16

/-- RET cc (R289). -/
def retIf (cc : Cond) (s : State) : Result :=
  if s.cond cc then .next s.returnTo else retire 1 s

/-- `JR e8` (R284). -/
def execJrE8 (e8 : Byte) (s : State) : Result := jumpTo (s.relTarget e8) s

/-- `JR NZ,e8` (R285). -/
def execJrNzE8 (e8 : Byte) (s : State) : Result := jumpRelIf .nz e8 s

/-- `JR Z,e8` (R285). -/
def execJrZE8 (e8 : Byte) (s : State) : Result := jumpRelIf .z e8 s

/-- `JR NC,e8` (R285). -/
def execJrNcE8 (e8 : Byte) (s : State) : Result := jumpRelIf .nc e8 s

/-- `JR C,e8` (R285). -/
def execJrCE8 (e8 : Byte) (s : State) : Result := jumpRelIf .c e8 s

/-- `RET NZ` (R289). -/
def execRetNz (s : State) : Result := retIf .nz s

/-- `JP NZ,a16` (R282). -/
def execJpNzA16 (a16 : Word) (s : State) : Result := jumpIf .nz a16 s

/-- `JP a16` (R281). -/
def execJpA16 (a16 : Word) (s : State) : Result := jumpTo a16 s

/-- `CALL NZ,a16` (R287). -/
def execCallNzA16 (a16 : Word) (s : State) : Result := callIf .nz a16 s

/-- `RST 00H` (R291). -/
def execRst00 (s : State) : Result := .next (s.callTo 1 (rstTarget 0))

/-- `RET Z` (R289). -/
def execRetZ (s : State) : Result := retIf .z s

/-- `RET` (R288). -/
def execRet (s : State) : Result := .next s.returnTo

/-- `JP Z,a16` (R282). -/
def execJpZA16 (a16 : Word) (s : State) : Result := jumpIf .z a16 s

/-- `CALL Z,a16` (R287). -/
def execCallZA16 (a16 : Word) (s : State) : Result := callIf .z a16 s

/-- `CALL a16` (R286). -/
def execCallA16 (a16 : Word) (s : State) : Result := .next (s.callTo 3 a16)

/-- `RST 08H` (R291). -/
def execRst08 (s : State) : Result := .next (s.callTo 1 (rstTarget 1))

/-- `RET NC` (R289). -/
def execRetNc (s : State) : Result := retIf .nc s

/-- `JP NC,a16` (R282). -/
def execJpNcA16 (a16 : Word) (s : State) : Result := jumpIf .nc a16 s

/-- `CALL NC,a16` (R287). -/
def execCallNcA16 (a16 : Word) (s : State) : Result := callIf .nc a16 s

/-- `RST 10H` (R291). -/
def execRst10 (s : State) : Result := .next (s.callTo 1 (rstTarget 2))

/-- `RET C` (R289). -/
def execRetC (s : State) : Result := retIf .c s

/-- `RETI` (R290). -/
def execReti (s : State) : Result := .next s.returnFromInterrupt

/-- `JP C,a16` (R282). -/
def execJpCA16 (a16 : Word) (s : State) : Result := jumpIf .c a16 s

/-- `CALL C,a16` (R287). -/
def execCallCA16 (a16 : Word) (s : State) : Result := callIf .c a16 s

/-- `RST 18H` (R291). -/
def execRst18 (s : State) : Result := .next (s.callTo 1 (rstTarget 3))

/-- `RST 20H` (R291). -/
def execRst20 (s : State) : Result := .next (s.callTo 1 (rstTarget 4))

/-- `JP HL` (R283). -/
def execJpHl (s : State) : Result := jumpTo s.hl s

/-- `RST 28H` (R291). -/
def execRst28 (s : State) : Result := .next (s.callTo 1 (rstTarget 5))

/-- `RST 30H` (R291). -/
def execRst30 (s : State) : Result := .next (s.callTo 1 (rstTarget 6))

/-- `RST 38H` (R291). -/
def execRst38 (s : State) : Result := .next (s.callTo 1 (rstTarget 7))

end Sys2Proof.Machine
end

