-- ==== Sys2Proof/Machine/Load16.lean ====
section
/-! DEFINITION. The 16-bit loads, the stack and the stack-pointer moves (R173 to R179). Stack addresses wrap, so only
LD (a16),SP can fail, by the check of R55. -/

namespace Sys2Proof.Machine

/-- LD rp,d16 (R173). -/
def loadPair (rp : Pair) (d16 : Word) (s : State) : Result := retire 3 (s.setPair rp d16)

/-- LD (a16),SP: fails before either byte is written when a16 = 0xFFFF (R174, R55). -/
def storeSp (a16 : Word) (s : State) : Result :=
  match s.busWrite16 a16 s.sp with
  | .ok t => retire 3 t
  | .error f => raise f

/-- LD SP,HL (R175). -/
def loadSpHl (s : State) : Result := retire 1 { s with sp := s.hl }

/-- LD HL,SP+e8 (R176). -/
def loadHlSp (e8 : Byte) (s : State) : Result :=
  retire 2 ((s.setHl (spAdd s.sp e8)).setFlags (spAddFlags s.sp e8))

/-- PUSH rp2 (R177). -/
def pushPair (rp2 : StackPair) (s : State) : Result := retire 1 (s.push16 (s.stackPair rp2))

/-- POP rp2 and POP AF, which discards the low nibble of the popped F (R178, R179). -/
def popPair (rp2 : StackPair) (s : State) : Result := retire 1 (s.drop16.setStackPair rp2 s.top16)

/-- `LD BC,d16` (R173). -/
def execLdBcD16 (d16 : Word) (s : State) : Result := loadPair .bc d16 s

/-- `LD (a16),SP` (R174). -/
def execLdAtA16Sp (a16 : Word) (s : State) : Result := storeSp a16 s

/-- `LD DE,d16` (R173). -/
def execLdDeD16 (d16 : Word) (s : State) : Result := loadPair .de d16 s

/-- `LD HL,d16` (R173). -/
def execLdHlD16 (d16 : Word) (s : State) : Result := loadPair .hl d16 s

/-- `LD SP,d16` (R173). -/
def execLdSpD16 (d16 : Word) (s : State) : Result := loadPair .sp d16 s

/-- `POP BC` (R178). -/
def execPopBc (s : State) : Result := popPair .bc s

/-- `PUSH BC` (R177). -/
def execPushBc (s : State) : Result := pushPair .bc s

/-- `POP DE` (R178). -/
def execPopDe (s : State) : Result := popPair .de s

/-- `PUSH DE` (R177). -/
def execPushDe (s : State) : Result := pushPair .de s

/-- `POP HL` (R178). -/
def execPopHl (s : State) : Result := popPair .hl s

/-- `PUSH HL` (R177). -/
def execPushHl (s : State) : Result := pushPair .hl s

/-- `POP AF` (R179). -/
def execPopAf (s : State) : Result := popPair .af s

/-- `PUSH AF` (R177). -/
def execPushAf (s : State) : Result := pushPair .af s

/-- `LD HL,SP+e8` (R176). -/
def execLdHlSpE8 (e8 : Byte) (s : State) : Result := loadHlSp e8 s

/-- `LD SP,HL` (R175). -/
def execLdSpHl (s : State) : Result := loadSpHl s

end Sys2Proof.Machine
end

