-- ==== Sys2Proof/Machine/Load8.lean ====
section
/-! DEFINITION. The 8-bit loads and stores (R140 to R158): one meaning per row, each one line over the shared
operations at the head of the file. None of them writes F, and none of them can fail (data addresses are 16-bit values). -/

namespace Sys2Proof.Machine

/-- LD r,r'; LD r,(HL); LD (HL),r: the source is read before the destination is written (R140 to R142). -/
def loadLoc (dst src : Loc) (s : State) : Result := retire 1 (s.setLoc dst (s.loc src))

/-- LD r,d8; LD (HL),d8 (R143, R144). -/
def loadImm (dst : Loc) (d8 : Byte) (s : State) : Result := retire 2 (s.setLoc dst d8)

/-- LD A through BC, DE, HL+, HL- or 0xFF00 + C (R145, R146, R153, R156, R158). -/
def loadAcc (src : AccAddr) (s : State) : Result :=
  retire 1 ((s.setReg .a (s.read (s.accAddress src))).stepAccAddress src)

/-- Storing A through BC, DE, HL+, HL- or 0xFF00 + C (R147, R148, R154, R155, R157). -/
def storeAcc (dst : AccAddr) (s : State) : Result :=
  retire 1 ((s.write (s.accAddress dst) s.a).stepAccAddress dst)

/-- LD A,(a16) (R149). -/
def loadAbs (a16 : Word) (s : State) : Result := retire 3 (s.setReg .a (s.read a16))

/-- LD (a16),A (R150). -/
def storeAbs (a16 : Word) (s : State) : Result := retire 3 (s.write a16 s.a)

/-- LDH A,(a8) (R151). -/
def loadHigh (a8 : Byte) (s : State) : Result := retire 2 (s.setReg .a (s.read (highAddress a8)))

/-- LDH (a8),A (R152). -/
def storeHigh (a8 : Byte) (s : State) : Result := retire 2 (s.write (highAddress a8) s.a)

/-- `LD (BC),A` (R147). -/
def execLdAtBcA (s : State) : Result := storeAcc .bc s

/-- `LD B,d8` (R143). -/
def execLdBD8 (d8 : Byte) (s : State) : Result := loadImm (.reg .b) d8 s

/-- `LD A,(BC)` (R145). -/
def execLdAAtBc (s : State) : Result := loadAcc .bc s

/-- `LD C,d8` (R143). -/
def execLdCD8 (d8 : Byte) (s : State) : Result := loadImm (.reg .c) d8 s

/-- `LD (DE),A` (R148). -/
def execLdAtDeA (s : State) : Result := storeAcc .de s

/-- `LD D,d8` (R143). -/
def execLdDD8 (d8 : Byte) (s : State) : Result := loadImm (.reg .d) d8 s

/-- `LD A,(DE)` (R146). -/
def execLdAAtDe (s : State) : Result := loadAcc .de s

/-- `LD E,d8` (R143). -/
def execLdED8 (d8 : Byte) (s : State) : Result := loadImm (.reg .e) d8 s

/-- `LD (HL+),A` (R155). -/
def execLdAtHlIncA (s : State) : Result := storeAcc .hlInc s

/-- `LD H,d8` (R143). -/
def execLdHD8 (d8 : Byte) (s : State) : Result := loadImm (.reg .h) d8 s

/-- `LD A,(HL+)` (R156). -/
def execLdAAtHlInc (s : State) : Result := loadAcc .hlInc s

/-- `LD L,d8` (R143). -/
def execLdLD8 (d8 : Byte) (s : State) : Result := loadImm (.reg .l) d8 s

/-- `LD (HL-),A` (R157). -/
def execLdAtHlDecA (s : State) : Result := storeAcc .hlDec s

/-- `LD (HL),d8` (R144). -/
def execLdAtHlD8 (d8 : Byte) (s : State) : Result := loadImm .atHl d8 s

/-- `LD A,(HL-)` (R158). -/
def execLdAAtHlDec (s : State) : Result := loadAcc .hlDec s

/-- `LD A,d8` (R143). -/
def execLdAD8 (d8 : Byte) (s : State) : Result := loadImm (.reg .a) d8 s

/-- `LD B,B` (R140). -/
def execLdBB (s : State) : Result := loadLoc (.reg .b) (.reg .b) s

/-- `LD B,C` (R140). -/
def execLdBC (s : State) : Result := loadLoc (.reg .b) (.reg .c) s

/-- `LD B,D` (R140). -/
def execLdBD (s : State) : Result := loadLoc (.reg .b) (.reg .d) s

/-- `LD B,E` (R140). -/
def execLdBE (s : State) : Result := loadLoc (.reg .b) (.reg .e) s

/-- `LD B,H` (R140). -/
def execLdBH (s : State) : Result := loadLoc (.reg .b) (.reg .h) s

/-- `LD B,L` (R140). -/
def execLdBL (s : State) : Result := loadLoc (.reg .b) (.reg .l) s

/-- `LD B,(HL)` (R141). -/
def execLdBAtHl (s : State) : Result := loadLoc (.reg .b) .atHl s

/-- `LD B,A` (R140). -/
def execLdBA (s : State) : Result := loadLoc (.reg .b) (.reg .a) s

/-- `LD C,B` (R140). -/
def execLdCB (s : State) : Result := loadLoc (.reg .c) (.reg .b) s

/-- `LD C,C` (R140). -/
def execLdCC (s : State) : Result := loadLoc (.reg .c) (.reg .c) s

/-- `LD C,D` (R140). -/
def execLdCD (s : State) : Result := loadLoc (.reg .c) (.reg .d) s

/-- `LD C,E` (R140). -/
def execLdCE (s : State) : Result := loadLoc (.reg .c) (.reg .e) s

/-- `LD C,H` (R140). -/
def execLdCH (s : State) : Result := loadLoc (.reg .c) (.reg .h) s

/-- `LD C,L` (R140). -/
def execLdCL (s : State) : Result := loadLoc (.reg .c) (.reg .l) s

/-- `LD C,(HL)` (R141). -/
def execLdCAtHl (s : State) : Result := loadLoc (.reg .c) .atHl s

/-- `LD C,A` (R140). -/
def execLdCA (s : State) : Result := loadLoc (.reg .c) (.reg .a) s

/-- `LD D,B` (R140). -/
def execLdDB (s : State) : Result := loadLoc (.reg .d) (.reg .b) s

/-- `LD D,C` (R140). -/
def execLdDC (s : State) : Result := loadLoc (.reg .d) (.reg .c) s

/-- `LD D,D` (R140). -/
def execLdDD (s : State) : Result := loadLoc (.reg .d) (.reg .d) s

/-- `LD D,E` (R140). -/
def execLdDE (s : State) : Result := loadLoc (.reg .d) (.reg .e) s

/-- `LD D,H` (R140). -/
def execLdDH (s : State) : Result := loadLoc (.reg .d) (.reg .h) s

/-- `LD D,L` (R140). -/
def execLdDL (s : State) : Result := loadLoc (.reg .d) (.reg .l) s

/-- `LD D,(HL)` (R141). -/
def execLdDAtHl (s : State) : Result := loadLoc (.reg .d) .atHl s

/-- `LD D,A` (R140). -/
def execLdDA (s : State) : Result := loadLoc (.reg .d) (.reg .a) s

/-- `LD E,B` (R140). -/
def execLdEB (s : State) : Result := loadLoc (.reg .e) (.reg .b) s

/-- `LD E,C` (R140). -/
def execLdEC (s : State) : Result := loadLoc (.reg .e) (.reg .c) s

/-- `LD E,D` (R140). -/
def execLdED (s : State) : Result := loadLoc (.reg .e) (.reg .d) s

/-- `LD E,E` (R140). -/
def execLdEE (s : State) : Result := loadLoc (.reg .e) (.reg .e) s

/-- `LD E,H` (R140). -/
def execLdEH (s : State) : Result := loadLoc (.reg .e) (.reg .h) s

/-- `LD E,L` (R140). -/
def execLdEL (s : State) : Result := loadLoc (.reg .e) (.reg .l) s

/-- `LD E,(HL)` (R141). -/
def execLdEAtHl (s : State) : Result := loadLoc (.reg .e) .atHl s

/-- `LD E,A` (R140). -/
def execLdEA (s : State) : Result := loadLoc (.reg .e) (.reg .a) s

/-- `LD H,B` (R140). -/
def execLdHB (s : State) : Result := loadLoc (.reg .h) (.reg .b) s

/-- `LD H,C` (R140). -/
def execLdHC (s : State) : Result := loadLoc (.reg .h) (.reg .c) s

/-- `LD H,D` (R140). -/
def execLdHD (s : State) : Result := loadLoc (.reg .h) (.reg .d) s

/-- `LD H,E` (R140). -/
def execLdHE (s : State) : Result := loadLoc (.reg .h) (.reg .e) s

/-- `LD H,H` (R140). -/
def execLdHH (s : State) : Result := loadLoc (.reg .h) (.reg .h) s

/-- `LD H,L` (R140). -/
def execLdHL (s : State) : Result := loadLoc (.reg .h) (.reg .l) s

/-- `LD H,(HL)` (R141). -/
def execLdHAtHl (s : State) : Result := loadLoc (.reg .h) .atHl s

/-- `LD H,A` (R140). -/
def execLdHA (s : State) : Result := loadLoc (.reg .h) (.reg .a) s

/-- `LD L,B` (R140). -/
def execLdLB (s : State) : Result := loadLoc (.reg .l) (.reg .b) s

/-- `LD L,C` (R140). -/
def execLdLC (s : State) : Result := loadLoc (.reg .l) (.reg .c) s

/-- `LD L,D` (R140). -/
def execLdLD (s : State) : Result := loadLoc (.reg .l) (.reg .d) s

/-- `LD L,E` (R140). -/
def execLdLE (s : State) : Result := loadLoc (.reg .l) (.reg .e) s

/-- `LD L,H` (R140). -/
def execLdLH (s : State) : Result := loadLoc (.reg .l) (.reg .h) s

/-- `LD L,L` (R140). -/
def execLdLL (s : State) : Result := loadLoc (.reg .l) (.reg .l) s

/-- `LD L,(HL)` (R141). -/
def execLdLAtHl (s : State) : Result := loadLoc (.reg .l) .atHl s

/-- `LD L,A` (R140). -/
def execLdLA (s : State) : Result := loadLoc (.reg .l) (.reg .a) s

/-- `LD (HL),B` (R142). -/
def execLdAtHlB (s : State) : Result := loadLoc .atHl (.reg .b) s

/-- `LD (HL),C` (R142). -/
def execLdAtHlC (s : State) : Result := loadLoc .atHl (.reg .c) s

/-- `LD (HL),D` (R142). -/
def execLdAtHlD (s : State) : Result := loadLoc .atHl (.reg .d) s

/-- `LD (HL),E` (R142). -/
def execLdAtHlE (s : State) : Result := loadLoc .atHl (.reg .e) s

/-- `LD (HL),H` (R142). -/
def execLdAtHlH (s : State) : Result := loadLoc .atHl (.reg .h) s

/-- `LD (HL),L` (R142). -/
def execLdAtHlL (s : State) : Result := loadLoc .atHl (.reg .l) s

/-- `LD (HL),A` (R142). -/
def execLdAtHlA (s : State) : Result := loadLoc .atHl (.reg .a) s

/-- `LD A,B` (R140). -/
def execLdAB (s : State) : Result := loadLoc (.reg .a) (.reg .b) s

/-- `LD A,C` (R140). -/
def execLdAC (s : State) : Result := loadLoc (.reg .a) (.reg .c) s

/-- `LD A,D` (R140). -/
def execLdAD (s : State) : Result := loadLoc (.reg .a) (.reg .d) s

/-- `LD A,E` (R140). -/
def execLdAE (s : State) : Result := loadLoc (.reg .a) (.reg .e) s

/-- `LD A,H` (R140). -/
def execLdAH (s : State) : Result := loadLoc (.reg .a) (.reg .h) s

/-- `LD A,L` (R140). -/
def execLdAL (s : State) : Result := loadLoc (.reg .a) (.reg .l) s

/-- `LD A,(HL)` (R141). -/
def execLdAAtHl (s : State) : Result := loadLoc (.reg .a) .atHl s

/-- `LD A,A` (R140). -/
def execLdAA (s : State) : Result := loadLoc (.reg .a) (.reg .a) s

/-- `LDH (a8),A` (R152). -/
def execLdhAtA8A (a8 : Byte) (s : State) : Result := storeHigh a8 s

/-- `LD (C),A` (R154). -/
def execLdAtCA (s : State) : Result := storeAcc .highC s

/-- `LD (a16),A` (R150). -/
def execLdAtA16A (a16 : Word) (s : State) : Result := storeAbs a16 s

/-- `LDH A,(a8)` (R151). -/
def execLdhAAtA8 (a8 : Byte) (s : State) : Result := loadHigh a8 s

/-- `LD A,(C)` (R153). -/
def execLdAAtC (s : State) : Result := loadAcc .highC s

/-- `LD A,(a16)` (R149). -/
def execLdAAtA16 (a16 : Word) (s : State) : Result := loadAbs a16 s

end Sys2Proof.Machine
end

