-- ==== Sys2Proof/Machine/Rotate.lean ====
section
/-! DEFINITION. The accumulator rotates of the base space (R248 to R251), which always clear Z, and the rotates,
shifts and SWAP of the extended space (R252 to R267), whose Z follows the result. -/

namespace Sys2Proof.Machine

/-- An accumulator rotate: `r` is the rotated A and the bit shifted out (R248 to R251). -/
def rotateAcc (r : Byte × Bool) (s : State) : Result :=
  retire 1 ((s.setReg .a r.1).setFlags (accRotFlags r))

/-- A rotate, shift or swap of a register or the byte at HL: one read, then one write at the same place
(R252 to R267). -/
def rotLoc (op : RotOp) (dst : Loc) (s : State) : Result :=
  let r := rotate8 op (s.loc dst) s.flags.c
  retire 2 ((s.setLoc dst r.1).setFlags (rotFlags r))

/-- `RLCA` (R248). -/
def execRlca (s : State) : Result := rotateAcc (rotLC s.a) s

/-- `RRCA` (R249). -/
def execRrca (s : State) : Result := rotateAcc (rotRC s.a) s

/-- `RLA` (R250). -/
def execRla (s : State) : Result := rotateAcc (rotL s.a s.flags.c) s

/-- `RRA` (R251). -/
def execRra (s : State) : Result := rotateAcc (rotR s.a s.flags.c) s

/-- `RLC B` (R252). -/
def execRlcB (s : State) : Result := rotLoc .rlc (.reg .b) s

/-- `RLC C` (R252). -/
def execRlcC (s : State) : Result := rotLoc .rlc (.reg .c) s

/-- `RLC D` (R252). -/
def execRlcD (s : State) : Result := rotLoc .rlc (.reg .d) s

/-- `RLC E` (R252). -/
def execRlcE (s : State) : Result := rotLoc .rlc (.reg .e) s

/-- `RLC H` (R252). -/
def execRlcH (s : State) : Result := rotLoc .rlc (.reg .h) s

/-- `RLC L` (R252). -/
def execRlcL (s : State) : Result := rotLoc .rlc (.reg .l) s

/-- `RLC (HL)` (R253). -/
def execRlcAtHl (s : State) : Result := rotLoc .rlc .atHl s

/-- `RLC A` (R252). -/
def execRlcA (s : State) : Result := rotLoc .rlc (.reg .a) s

/-- `RRC B` (R254). -/
def execRrcB (s : State) : Result := rotLoc .rrc (.reg .b) s

/-- `RRC C` (R254). -/
def execRrcC (s : State) : Result := rotLoc .rrc (.reg .c) s

/-- `RRC D` (R254). -/
def execRrcD (s : State) : Result := rotLoc .rrc (.reg .d) s

/-- `RRC E` (R254). -/
def execRrcE (s : State) : Result := rotLoc .rrc (.reg .e) s

/-- `RRC H` (R254). -/
def execRrcH (s : State) : Result := rotLoc .rrc (.reg .h) s

/-- `RRC L` (R254). -/
def execRrcL (s : State) : Result := rotLoc .rrc (.reg .l) s

/-- `RRC (HL)` (R255). -/
def execRrcAtHl (s : State) : Result := rotLoc .rrc .atHl s

/-- `RRC A` (R254). -/
def execRrcA (s : State) : Result := rotLoc .rrc (.reg .a) s

/-- `RL B` (R256). -/
def execRlB (s : State) : Result := rotLoc .rl (.reg .b) s

/-- `RL C` (R256). -/
def execRlC (s : State) : Result := rotLoc .rl (.reg .c) s

/-- `RL D` (R256). -/
def execRlD (s : State) : Result := rotLoc .rl (.reg .d) s

/-- `RL E` (R256). -/
def execRlE (s : State) : Result := rotLoc .rl (.reg .e) s

/-- `RL H` (R256). -/
def execRlH (s : State) : Result := rotLoc .rl (.reg .h) s

/-- `RL L` (R256). -/
def execRlL (s : State) : Result := rotLoc .rl (.reg .l) s

/-- `RL (HL)` (R257). -/
def execRlAtHl (s : State) : Result := rotLoc .rl .atHl s

/-- `RL A` (R256). -/
def execRlA (s : State) : Result := rotLoc .rl (.reg .a) s

/-- `RR B` (R258). -/
def execRrB (s : State) : Result := rotLoc .rr (.reg .b) s

/-- `RR C` (R258). -/
def execRrC (s : State) : Result := rotLoc .rr (.reg .c) s

/-- `RR D` (R258). -/
def execRrD (s : State) : Result := rotLoc .rr (.reg .d) s

/-- `RR E` (R258). -/
def execRrE (s : State) : Result := rotLoc .rr (.reg .e) s

/-- `RR H` (R258). -/
def execRrH (s : State) : Result := rotLoc .rr (.reg .h) s

/-- `RR L` (R258). -/
def execRrL (s : State) : Result := rotLoc .rr (.reg .l) s

/-- `RR (HL)` (R259). -/
def execRrAtHl (s : State) : Result := rotLoc .rr .atHl s

/-- `RR A` (R258). -/
def execRrA (s : State) : Result := rotLoc .rr (.reg .a) s

/-- `SLA B` (R260). -/
def execSlaB (s : State) : Result := rotLoc .sla (.reg .b) s

/-- `SLA C` (R260). -/
def execSlaC (s : State) : Result := rotLoc .sla (.reg .c) s

/-- `SLA D` (R260). -/
def execSlaD (s : State) : Result := rotLoc .sla (.reg .d) s

/-- `SLA E` (R260). -/
def execSlaE (s : State) : Result := rotLoc .sla (.reg .e) s

/-- `SLA H` (R260). -/
def execSlaH (s : State) : Result := rotLoc .sla (.reg .h) s

/-- `SLA L` (R260). -/
def execSlaL (s : State) : Result := rotLoc .sla (.reg .l) s

/-- `SLA (HL)` (R261). -/
def execSlaAtHl (s : State) : Result := rotLoc .sla .atHl s

/-- `SLA A` (R260). -/
def execSlaA (s : State) : Result := rotLoc .sla (.reg .a) s

/-- `SRA B` (R262). -/
def execSraB (s : State) : Result := rotLoc .sra (.reg .b) s

/-- `SRA C` (R262). -/
def execSraC (s : State) : Result := rotLoc .sra (.reg .c) s

/-- `SRA D` (R262). -/
def execSraD (s : State) : Result := rotLoc .sra (.reg .d) s

/-- `SRA E` (R262). -/
def execSraE (s : State) : Result := rotLoc .sra (.reg .e) s

/-- `SRA H` (R262). -/
def execSraH (s : State) : Result := rotLoc .sra (.reg .h) s

/-- `SRA L` (R262). -/
def execSraL (s : State) : Result := rotLoc .sra (.reg .l) s

/-- `SRA (HL)` (R263). -/
def execSraAtHl (s : State) : Result := rotLoc .sra .atHl s

/-- `SRA A` (R262). -/
def execSraA (s : State) : Result := rotLoc .sra (.reg .a) s

/-- `SWAP B` (R264). -/
def execSwapB (s : State) : Result := rotLoc .swap (.reg .b) s

/-- `SWAP C` (R264). -/
def execSwapC (s : State) : Result := rotLoc .swap (.reg .c) s

/-- `SWAP D` (R264). -/
def execSwapD (s : State) : Result := rotLoc .swap (.reg .d) s

/-- `SWAP E` (R264). -/
def execSwapE (s : State) : Result := rotLoc .swap (.reg .e) s

/-- `SWAP H` (R264). -/
def execSwapH (s : State) : Result := rotLoc .swap (.reg .h) s

/-- `SWAP L` (R264). -/
def execSwapL (s : State) : Result := rotLoc .swap (.reg .l) s

/-- `SWAP (HL)` (R265). -/
def execSwapAtHl (s : State) : Result := rotLoc .swap .atHl s

/-- `SWAP A` (R264). -/
def execSwapA (s : State) : Result := rotLoc .swap (.reg .a) s

/-- `SRL B` (R266). -/
def execSrlB (s : State) : Result := rotLoc .srl (.reg .b) s

/-- `SRL C` (R266). -/
def execSrlC (s : State) : Result := rotLoc .srl (.reg .c) s

/-- `SRL D` (R266). -/
def execSrlD (s : State) : Result := rotLoc .srl (.reg .d) s

/-- `SRL E` (R266). -/
def execSrlE (s : State) : Result := rotLoc .srl (.reg .e) s

/-- `SRL H` (R266). -/
def execSrlH (s : State) : Result := rotLoc .srl (.reg .h) s

/-- `SRL L` (R266). -/
def execSrlL (s : State) : Result := rotLoc .srl (.reg .l) s

/-- `SRL (HL)` (R267). -/
def execSrlAtHl (s : State) : Result := rotLoc .srl .atHl s

/-- `SRL A` (R266). -/
def execSrlA (s : State) : Result := rotLoc .srl (.reg .a) s

end Sys2Proof.Machine
end

