-- ==== Sys2Proof/Machine/System.lean ====
section
/-! DEFINITION. NOP, HALT, STOP, DI, EI (R300 to R304), the eleven illegal base opcodes (R305) and the escape row
PREFIX CB (R306). -/

namespace Sys2Proof.Machine

/-- An illegal base opcode: the step raises the failure with the opcode and its address, and nothing changes
(R131, R305, R321). -/
def illegalOpcode (op : Byte) (s : State) : Result := raise (.unimplementedOpcode op s.pc)

/-- The extended rule a sub-opcode selects, by its fields: x = 0 the rotate or shift y, x = 1, 2, 3 BIT, RES, SET of
bit y, each on the operand z (R91, R306). -/
def extendedRule (cbop : Byte) (s : State) : Result :=
  match (fieldX cbop).toNat with
  | 0 => rotLoc (RotOp.ofCode (fieldY cbop)) (Loc.ofCode (fieldZ cbop)) s
  | 1 => bitLoc (fieldY cbop) (Loc.ofCode (fieldZ cbop)) s
  | 2 => resLoc (fieldY cbop) (Loc.ofCode (fieldZ cbop)) s
  | _ => setBitLoc (fieldY cbop) (Loc.ofCode (fieldZ cbop)) s

/-- The escape byte: the sub-opcode is read at PC + 1, not reduced modulo 2^16, and its extended rule is executed; at
PC = 0xFFFF the read fails and nothing changes (R124, R306). DESIGN CHOICE that the row is a constructor, safe: log
entry 4. -/
def escapeRule (s : State) : Result :=
  match s.busRead (s.pc.toNat + 1 : Nat) with
  | .ok cbop => extendedRule cbop s
  | .error f => raise f

/-- `NOP` (R300). -/
def execNop (s : State) : Result := retire 1 s

/-- `STOP` (R302). -/
def execStop (_x : Byte) (s : State) : Result := retire 2 { s with mode := .stopped }

/-- `HALT` (R301). -/
def execHalt (s : State) : Result := retire 1 { s with mode := .halted }

/-- `DI` (R303). -/
def execDi (s : State) : Result := retire 1 { s with ime := false }

/-- `EI` (R304). -/
def execEi (s : State) : Result := retire 1 { s with ime := true }

/-- `PREFIX CB` (R306). -/
def execPrefixCb (s : State) : Result := escapeRule s

/-- `(illegal 0xD3)` (R305). -/
def execIllegalD3 (s : State) : Result := illegalOpcode 0xD3 s

/-- `(illegal 0xDB)` (R305). -/
def execIllegalDB (s : State) : Result := illegalOpcode 0xDB s

/-- `(illegal 0xDD)` (R305). -/
def execIllegalDD (s : State) : Result := illegalOpcode 0xDD s

/-- `(illegal 0xE3)` (R305). -/
def execIllegalE3 (s : State) : Result := illegalOpcode 0xE3 s

/-- `(illegal 0xE4)` (R305). -/
def execIllegalE4 (s : State) : Result := illegalOpcode 0xE4 s

/-- `(illegal 0xEB)` (R305). -/
def execIllegalEB (s : State) : Result := illegalOpcode 0xEB s

/-- `(illegal 0xEC)` (R305). -/
def execIllegalEC (s : State) : Result := illegalOpcode 0xEC s

/-- `(illegal 0xED)` (R305). -/
def execIllegalED (s : State) : Result := illegalOpcode 0xED s

/-- `(illegal 0xF4)` (R305). -/
def execIllegalF4 (s : State) : Result := illegalOpcode 0xF4 s

/-- `(illegal 0xFC)` (R305). -/
def execIllegalFC (s : State) : Result := illegalOpcode 0xFC s

/-- `(illegal 0xFD)` (R305). -/
def execIllegalFD (s : State) : Result := illegalOpcode 0xFD s

end Sys2Proof.Machine
end

