-- ==== Sys2Proof/Decode.lean ====
section
/-! DEFINITION. The decoder, total on any bytes, written from the opcode maps R93 and R94 cell by cell and from the
formats of R80; the encoder, written from the field decomposition of R81 to R86 and R91; and the host's reading of an opcode-table
word. A decoder finds the length of an instruction from its first byte alone (R101). -/

namespace Sys2Proof

open Sys2Proof.Machine

/-- What a cell of the base opcode map says stands at an opcode, by its format (R80, R93). -/
inductive BaseCell where
  /-- Format F1: the opcode byte is the whole instruction. -/
  | whole (i : Instr)
  /-- Format F2: one operand byte follows (R87, R88, R89, R302). -/
  | imm8 (f : Byte → Instr)
  /-- Format F3: two operand bytes follow, the low one first (R90). -/
  | imm16 (f : Word → Instr)
  /-- The escape byte: the next byte is a sub-opcode of the extended space (R92). -/
  | sub

/-- Why bytes decode to no instruction. -/
inductive DecodeError where
  /-- The instruction's byte number `index` (0 is the opcode) is not among the bytes given. -/
  | missingByte (index : Nat)
  /-- The opcode has no cell in its map. No opcode of the two maps is without one (R133). -/
  | noCell (opcode : Byte)
deriving DecidableEq, Repr

/-- Row 0x of the base opcode map (R93). -/
def baseRow0 : List BaseCell :=
  [.whole .nop, .imm16 .ldBcD16, .whole .ldAtBcA, .whole .incBc, .whole .incB, .whole .decB,
   .imm8 .ldBD8, .whole .rlca, .imm16 .ldAtA16Sp, .whole .addHlBc, .whole .ldAAtBc, .whole .decBc,
   .whole .incC, .whole .decC, .imm8 .ldCD8, .whole .rrca]

/-- Row 1x of the base opcode map (R93). -/
def baseRow1 : List BaseCell :=
  [.imm8 .stop, .imm16 .ldDeD16, .whole .ldAtDeA, .whole .incDe, .whole .incD, .whole .decD,
   .imm8 .ldDD8, .whole .rla, .imm8 .jrE8, .whole .addHlDe, .whole .ldAAtDe, .whole .decDe,
   .whole .incE, .whole .decE, .imm8 .ldED8, .whole .rra]

/-- Row 2x of the base opcode map (R93). -/
def baseRow2 : List BaseCell :=
  [.imm8 .jrNzE8, .imm16 .ldHlD16, .whole .ldAtHlIncA, .whole .incHl, .whole .incH, .whole .decH,
   .imm8 .ldHD8, .whole .daa, .imm8 .jrZE8, .whole .addHlHl, .whole .ldAAtHlInc, .whole .decHl,
   .whole .incL, .whole .decL, .imm8 .ldLD8, .whole .cpl]

/-- Row 3x of the base opcode map (R93). -/
def baseRow3 : List BaseCell :=
  [.imm8 .jrNcE8, .imm16 .ldSpD16, .whole .ldAtHlDecA, .whole .incSp, .whole .incAtHl, .whole .decAtHl,
   .imm8 .ldAtHlD8, .whole .scf, .imm8 .jrCE8, .whole .addHlSp, .whole .ldAAtHlDec, .whole .decSp,
   .whole .incA, .whole .decA, .imm8 .ldAD8, .whole .ccf]

/-- Row 4x of the base opcode map (R93). -/
def baseRow4 : List BaseCell :=
  [.whole .ldBB, .whole .ldBC, .whole .ldBD, .whole .ldBE, .whole .ldBH, .whole .ldBL, .whole .ldBAtHl,
   .whole .ldBA, .whole .ldCB, .whole .ldCC, .whole .ldCD, .whole .ldCE, .whole .ldCH, .whole .ldCL,
   .whole .ldCAtHl, .whole .ldCA]

/-- Row 5x of the base opcode map (R93). -/
def baseRow5 : List BaseCell :=
  [.whole .ldDB, .whole .ldDC, .whole .ldDD, .whole .ldDE, .whole .ldDH, .whole .ldDL, .whole .ldDAtHl,
   .whole .ldDA, .whole .ldEB, .whole .ldEC, .whole .ldED, .whole .ldEE, .whole .ldEH, .whole .ldEL,
   .whole .ldEAtHl, .whole .ldEA]

/-- Row 6x of the base opcode map (R93). -/
def baseRow6 : List BaseCell :=
  [.whole .ldHB, .whole .ldHC, .whole .ldHD, .whole .ldHE, .whole .ldHH, .whole .ldHL, .whole .ldHAtHl,
   .whole .ldHA, .whole .ldLB, .whole .ldLC, .whole .ldLD, .whole .ldLE, .whole .ldLH, .whole .ldLL,
   .whole .ldLAtHl, .whole .ldLA]

/-- Row 7x of the base opcode map (R93). -/
def baseRow7 : List BaseCell :=
  [.whole .ldAtHlB, .whole .ldAtHlC, .whole .ldAtHlD, .whole .ldAtHlE, .whole .ldAtHlH,
   .whole .ldAtHlL, .whole .halt, .whole .ldAtHlA, .whole .ldAB, .whole .ldAC, .whole .ldAD,
   .whole .ldAE, .whole .ldAH, .whole .ldAL, .whole .ldAAtHl, .whole .ldAA]

/-- Row 8x of the base opcode map (R93). -/
def baseRow8 : List BaseCell :=
  [.whole .addAB, .whole .addAC, .whole .addAD, .whole .addAE, .whole .addAH, .whole .addAL,
   .whole .addAAtHl, .whole .addAA, .whole .adcAB, .whole .adcAC, .whole .adcAD, .whole .adcAE,
   .whole .adcAH, .whole .adcAL, .whole .adcAAtHl, .whole .adcAA]

/-- Row 9x of the base opcode map (R93). -/
def baseRow9 : List BaseCell :=
  [.whole .subB, .whole .subC, .whole .subD, .whole .subE, .whole .subH, .whole .subL, .whole .subAtHl,
   .whole .subA, .whole .sbcAB, .whole .sbcAC, .whole .sbcAD, .whole .sbcAE, .whole .sbcAH,
   .whole .sbcAL, .whole .sbcAAtHl, .whole .sbcAA]

/-- Row Ax of the base opcode map (R93). -/
def baseRowA : List BaseCell :=
  [.whole .andB, .whole .andC, .whole .andD, .whole .andE, .whole .andH, .whole .andL, .whole .andAtHl,
   .whole .andA, .whole .xorB, .whole .xorC, .whole .xorD, .whole .xorE, .whole .xorH, .whole .xorL,
   .whole .xorAtHl, .whole .xorA]

/-- Row Bx of the base opcode map (R93). -/
def baseRowB : List BaseCell :=
  [.whole .orB, .whole .orC, .whole .orD, .whole .orE, .whole .orH, .whole .orL, .whole .orAtHl,
   .whole .orA, .whole .cpB, .whole .cpC, .whole .cpD, .whole .cpE, .whole .cpH, .whole .cpL,
   .whole .cpAtHl, .whole .cpA]

/-- Row Cx of the base opcode map (R93). -/
def baseRowC : List BaseCell :=
  [.whole .retNz, .whole .popBc, .imm16 .jpNzA16, .imm16 .jpA16, .imm16 .callNzA16, .whole .pushBc,
   .imm8 .addAD8, .whole .rst00, .whole .retZ, .whole .ret, .imm16 .jpZA16, .sub, .imm16 .callZA16,
   .imm16 .callA16, .imm8 .adcAD8, .whole .rst08]

/-- Row Dx of the base opcode map (R93). -/
def baseRowD : List BaseCell :=
  [.whole .retNc, .whole .popDe, .imm16 .jpNcA16, .whole .illegalD3, .imm16 .callNcA16, .whole .pushDe,
   .imm8 .subD8, .whole .rst10, .whole .retC, .whole .reti, .imm16 .jpCA16, .whole .illegalDB,
   .imm16 .callCA16, .whole .illegalDD, .imm8 .sbcAD8, .whole .rst18]

/-- Row Ex of the base opcode map (R93). -/
def baseRowE : List BaseCell :=
  [.imm8 .ldhAtA8A, .whole .popHl, .whole .ldAtCA, .whole .illegalE3, .whole .illegalE4,
   .whole .pushHl, .imm8 .andD8, .whole .rst20, .imm8 .addSpE8, .whole .jpHl, .imm16 .ldAtA16A,
   .whole .illegalEB, .whole .illegalEC, .whole .illegalED, .imm8 .xorD8, .whole .rst28]

/-- Row Fx of the base opcode map (R93). -/
def baseRowF : List BaseCell :=
  [.imm8 .ldhAAtA8, .whole .popAf, .whole .ldAAtC, .whole .di, .whole .illegalF4, .whole .pushAf,
   .imm8 .orD8, .whole .rst30, .imm8 .ldHlSpE8, .whole .ldSpHl, .imm16 .ldAAtA16, .whole .ei,
   .whole .illegalFC, .whole .illegalFD, .imm8 .cpD8, .whole .rst38]

/-- The base opcode map (R93). -/
def baseMap : List (List BaseCell) :=
  [baseRow0, baseRow1, baseRow2, baseRow3, baseRow4, baseRow5, baseRow6, baseRow7,
   baseRow8, baseRow9, baseRowA, baseRowB, baseRowC, baseRowD, baseRowE, baseRowF]

/-- Row 0x of the extended opcode map (R94). -/
def extRow0 : List Instr :=
  [.rlcB, .rlcC, .rlcD, .rlcE, .rlcH, .rlcL, .rlcAtHl, .rlcA, .rrcB, .rrcC, .rrcD, .rrcE, .rrcH, .rrcL,
   .rrcAtHl, .rrcA]

/-- Row 1x of the extended opcode map (R94). -/
def extRow1 : List Instr :=
  [.rlB, .rlC, .rlD, .rlE, .rlH, .rlL, .rlAtHl, .rlA, .rrB, .rrC, .rrD, .rrE, .rrH, .rrL, .rrAtHl,
   .rrA]

/-- Row 2x of the extended opcode map (R94). -/
def extRow2 : List Instr :=
  [.slaB, .slaC, .slaD, .slaE, .slaH, .slaL, .slaAtHl, .slaA, .sraB, .sraC, .sraD, .sraE, .sraH, .sraL,
   .sraAtHl, .sraA]

/-- Row 3x of the extended opcode map (R94). -/
def extRow3 : List Instr :=
  [.swapB, .swapC, .swapD, .swapE, .swapH, .swapL, .swapAtHl, .swapA, .srlB, .srlC, .srlD, .srlE,
   .srlH, .srlL, .srlAtHl, .srlA]

/-- Row 4x of the extended opcode map (R94). -/
def extRow4 : List Instr :=
  [.bit0B, .bit0C, .bit0D, .bit0E, .bit0H, .bit0L, .bit0AtHl, .bit0A, .bit1B, .bit1C, .bit1D, .bit1E,
   .bit1H, .bit1L, .bit1AtHl, .bit1A]

/-- Row 5x of the extended opcode map (R94). -/
def extRow5 : List Instr :=
  [.bit2B, .bit2C, .bit2D, .bit2E, .bit2H, .bit2L, .bit2AtHl, .bit2A, .bit3B, .bit3C, .bit3D, .bit3E,
   .bit3H, .bit3L, .bit3AtHl, .bit3A]

/-- Row 6x of the extended opcode map (R94). -/
def extRow6 : List Instr :=
  [.bit4B, .bit4C, .bit4D, .bit4E, .bit4H, .bit4L, .bit4AtHl, .bit4A, .bit5B, .bit5C, .bit5D, .bit5E,
   .bit5H, .bit5L, .bit5AtHl, .bit5A]

/-- Row 7x of the extended opcode map (R94). -/
def extRow7 : List Instr :=
  [.bit6B, .bit6C, .bit6D, .bit6E, .bit6H, .bit6L, .bit6AtHl, .bit6A, .bit7B, .bit7C, .bit7D, .bit7E,
   .bit7H, .bit7L, .bit7AtHl, .bit7A]

/-- Row 8x of the extended opcode map (R94). -/
def extRow8 : List Instr :=
  [.res0B, .res0C, .res0D, .res0E, .res0H, .res0L, .res0AtHl, .res0A, .res1B, .res1C, .res1D, .res1E,
   .res1H, .res1L, .res1AtHl, .res1A]

/-- Row 9x of the extended opcode map (R94). -/
def extRow9 : List Instr :=
  [.res2B, .res2C, .res2D, .res2E, .res2H, .res2L, .res2AtHl, .res2A, .res3B, .res3C, .res3D, .res3E,
   .res3H, .res3L, .res3AtHl, .res3A]

/-- Row Ax of the extended opcode map (R94). -/
def extRowA : List Instr :=
  [.res4B, .res4C, .res4D, .res4E, .res4H, .res4L, .res4AtHl, .res4A, .res5B, .res5C, .res5D, .res5E,
   .res5H, .res5L, .res5AtHl, .res5A]

/-- Row Bx of the extended opcode map (R94). -/
def extRowB : List Instr :=
  [.res6B, .res6C, .res6D, .res6E, .res6H, .res6L, .res6AtHl, .res6A, .res7B, .res7C, .res7D, .res7E,
   .res7H, .res7L, .res7AtHl, .res7A]

/-- Row Cx of the extended opcode map (R94). -/
def extRowC : List Instr :=
  [.set0B, .set0C, .set0D, .set0E, .set0H, .set0L, .set0AtHl, .set0A, .set1B, .set1C, .set1D, .set1E,
   .set1H, .set1L, .set1AtHl, .set1A]

/-- Row Dx of the extended opcode map (R94). -/
def extRowD : List Instr :=
  [.set2B, .set2C, .set2D, .set2E, .set2H, .set2L, .set2AtHl, .set2A, .set3B, .set3C, .set3D, .set3E,
   .set3H, .set3L, .set3AtHl, .set3A]

/-- Row Ex of the extended opcode map (R94). -/
def extRowE : List Instr :=
  [.set4B, .set4C, .set4D, .set4E, .set4H, .set4L, .set4AtHl, .set4A, .set5B, .set5C, .set5D, .set5E,
   .set5H, .set5L, .set5AtHl, .set5A]

/-- Row Fx of the extended opcode map (R94). -/
def extRowF : List Instr :=
  [.set6B, .set6C, .set6D, .set6E, .set6H, .set6L, .set6AtHl, .set6A, .set7B, .set7C, .set7D, .set7E,
   .set7H, .set7L, .set7AtHl, .set7A]

/-- The extended opcode map (R94). -/
def extMap : List (List Instr) :=
  [extRow0, extRow1, extRow2, extRow3, extRow4, extRow5, extRow6, extRow7,
   extRow8, extRow9, extRowA, extRowB, extRowC, extRowD, extRowE, extRowF]

/-- The cell of a base opcode: row op[7:4], column op[3:0] (R98). -/
def baseCell (op : Byte) : Option BaseCell :=
  (baseMap[op.toNat / 16]?).bind fun row => row[op.toNat % 16]?

/-- The extended instruction of a sub-opcode: row cbop[7:4], column cbop[3:0] (R94, R98). -/
def extCell (cbop : Byte) : Option Instr :=
  (extMap[cbop.toNat / 16]?).bind fun row => row[cbop.toNat % 16]?

/-- The bytes after the escape byte (R92, R124). With none, the escape byte stands by itself: that is the row
PREFIX CB, whose own rule fetches the sub-opcode and fails when there is none (R306). -/
def decodeExtended : List Byte → Except DecodeError (Instr × List Byte)
  | [] => .ok (.prefixCb, [])
  | cbop :: rest =>
    match extCell cbop with
    | some i => .ok (i, rest)
    | none => .error (.noCell cbop)

/-- An instruction with one operand byte (R87, R88, R89). -/
def decodeImm8 (f : Byte → Instr) : List Byte → Except DecodeError (Instr × List Byte)
  | [] => .error (.missingByte 1)
  | b1 :: rest => .ok (f b1, rest)

/-- An instruction with a 16-bit operand: byte 1 is its low byte, byte 2 its high byte (R90). -/
def decodeImm16 (f : Word → Instr) : List Byte → Except DecodeError (Instr × List Byte)
  | [] => .error (.missingByte 1)
  | [_] => .error (.missingByte 2)
  | b1 :: b2 :: rest => .ok (f (joinBytes b2 b1), rest)

/-- The instruction at the front of a byte stream, with the bytes after it (R80, R93, R94, R101). -/
def decode : List Byte → Except DecodeError (Instr × List Byte)
  | [] => .error (.missingByte 0)
  | op :: rest =>
    match baseCell op with
    | none => .error (.noCell op)
    | some (.whole i) => .ok (i, rest)
    | some (.imm8 f) => decodeImm8 f rest
    | some (.imm16 f) => decodeImm16 f rest
    | some .sub => decodeExtended rest

/-! ## The encoder -/

/-- A 16-bit operand in the instruction stream, low byte first (R90). -/
def operand16 (v : Word) : List Byte := [loByte v, hiByte v]

/-- An extended instruction: the escape byte, then the sub-opcode of fields x, y, z (R91, R92). -/
def extended (x : BitVec 2) (y z : BitVec 3) : List Byte := [Config.escapeByte, fieldsXYZ x y z]

/-- The opcode of a one-byte accumulator load (R145, R146, R153, R156, R158). -/
def AccAddr.loadOpcode : AccAddr → Byte
  | .bc => 0x0A | .de => 0x1A | .hlInc => 0x2A | .hlDec => 0x3A | .highC => 0xF2

/-- The opcode of a one-byte accumulator store (R147, R148, R154, R155, R157). -/
def AccAddr.storeOpcode : AccAddr → Byte
  | .bc => 0x02 | .de => 0x12 | .hlInc => 0x22 | .hlDec => 0x32 | .highC => 0xE2

/-- The bytes of an instruction, from its fields (R81 to R86, R91) and, for the rows outside the regular blocks, its
opcode (R93). -/
def Form.bytes : Form → List Byte
  | .nop => [0x00]
  | .stop x => [0x10, x]
  | .halt => [0x76]
  | .di => [0xF3]
  | .ei => [0xFB]
  | .ld dst src => [fieldsXYZ 1 dst.code src.code]
  | .ldImm dst d8 => [fieldsXYZ 0 dst.code 6, d8]
  | .ldLoad src => [src.loadOpcode]
  | .ldStore dst => [dst.storeOpcode]
  | .ldAbsLoad a16 => 0xFA :: operand16 a16
  | .ldAbsStore a16 => 0xEA :: operand16 a16
  | .ldhLoad a8 => [0xF0, a8]
  | .ldhStore a8 => [0xE0, a8]
  | .ldPair rp d16 => fieldsXPQZ 0 rp.code 0 1 :: operand16 d16
  | .ldAbsSp a16 => 0x08 :: operand16 a16
  | .ldSpHl => [0xF9]
  | .ldHlSp e8 => [0xF8, e8]
  | .push rp2 => [fieldsXPQZ 3 rp2.code 0 5]
  | .pop rp2 => [fieldsXPQZ 3 rp2.code 0 1]
  | .alu op src => [fieldsXYZ 2 op.code src.code]
  | .aluImm op d8 => [fieldsXYZ 3 op.code 6, d8]
  | .inc dst => [fieldsXYZ 0 dst.code 4]
  | .dec dst => [fieldsXYZ 0 dst.code 5]
  | .daa => [0x27]
  | .cpl => [0x2F]
  | .scf => [0x37]
  | .ccf => [0x3F]
  | .incPair rp => [fieldsXPQZ 0 rp.code 0 3]
  | .decPair rp => [fieldsXPQZ 0 rp.code 1 3]
  | .addHl rp => [fieldsXPQZ 0 rp.code 1 1]
  | .addSp e8 => [0xE8, e8]
  | .rlca => [0x07]
  | .rrca => [0x0F]
  | .rla => [0x17]
  | .rra => [0x1F]
  | .rot op dst => extended 0 op.code dst.code
  | .bit b src => extended 1 b src.code
  | .res b dst => extended 2 b dst.code
  | .set b dst => extended 3 b dst.code
  | .jp a16 => 0xC3 :: operand16 a16
  | .jpIf cc a16 => fieldsXYZ 3 (0#1 ++ cc.code) 2 :: operand16 a16
  | .jpHl => [0xE9]
  | .jr e8 => [0x18, e8]
  | .jrIf cc e8 => [fieldsXYZ 0 (1#1 ++ cc.code) 0, e8]
  | .call a16 => 0xCD :: operand16 a16
  | .callIf cc a16 => fieldsXYZ 3 (0#1 ++ cc.code) 4 :: operand16 a16
  | .ret => [0xC9]
  | .retIf cc => [fieldsXYZ 3 (0#1 ++ cc.code) 0]
  | .reti => [0xD9]
  | .rst y => [fieldsXYZ 3 y 7]
  | .illegal op => [op]
  | .escape => [Config.escapeByte]

/-- The bytes of an instruction, in stream order (R80). -/
def encode (i : Instr) : List Byte := i.form.bytes

/-! ## Words of the opcode table -/

/-- Byte `k` of a table word, counted from its least significant bits, with every bit from `nbits` up taken as 0. -/
def tableByte (nbits w k : Nat) : Byte := BitVec.ofNat 8 (w % 2 ^ nbits / 256 ^ k)

/-- The bytes, in stream order and padded with zero bytes to the longest instruction, of an opcode-table word. The
table numbers the bits of an extended row with the escape byte as the HIGH byte of a 16-bit number (30_encoding.md:
(byte at PC) * 256 + (byte at PC + 1)). Every other row is its first byte, and a later byte counts on from it. DEDUCED, safe: log entry 5. -/
def tableBytes (nbits w : Nat) : List Byte :=
  if nbits = 16 ∧ tableByte nbits w 1 = Config.escapeByte then
    [Config.escapeByte, tableByte nbits w 0, 0]
  else [tableByte nbits w 0, tableByte nbits w 1, tableByte nbits w 2]

/-- The instruction the decoder reads from an opcode-table word. The row PREFIX CB is a row of one byte (R95), so its
word is given to the decoder as that byte alone. -/
def decodeTableWord (nbits w : Nat) : Option Instr :=
  let bytes := tableBytes nbits w
  let word := if nbits ≤ 8 ∧ bytes.take 1 = [Config.escapeByte] then bytes.take 1 else bytes
  match decode word with
  | .ok (i, _) => some i
  | .error _ => none

end Sys2Proof
end

