-- ==== Sys2Proof/Machine/Fetch.lean ====
section
/-! DEFINITION. Instruction fetch (R123, R124, R126, R131): the bytes at PC, PC + 1, PC + 2 as far as the address
space reaches, decoded. Each address is computed without reduction, so an instruction byte past 0xFFFF fails with its address.
A bus read has no side effect, so that bytes after the instruction are looked at changes nothing (R126). -/

namespace Sys2Proof.Machine

/-- The bytes at `a`, `a + 1`, ... up to `n` of them, ending where a bus read fails (R51). -/
def State.bytesFrom (s : State) : Nat → Nat → List Byte
  | _, 0 => []
  | a, n + 1 =>
    match s.busRead (a : Nat) with
    | .ok b => b :: s.bytesFrom (a + 1) n
    | .error _ => []

/-- The bytes the longest instruction at PC can have (R80). DEDUCED from R126, safe: log entry 3. -/
def State.window (s : State) : List Byte := s.bytesFrom s.pc.toNat 3

/-- The failure of a fetch: the first address past 0xFFFF that the instruction needs (R126, R322), or an opcode
without a table entry (R131). -/
def fetchFault (s : State) : DecodeError → Fault
  | .missingByte k => .outOfRangeAddress (s.pc.toNat + k : Nat)
  | .noCell op => .unimplementedOpcode op s.pc

/-- The instruction at PC (R121). An illegal opcode is fetched as its row, whose own rule raises the failure before
any operand fetch (R131, R305). -/
def fetch (s : State) : Except Fault Instr :=
  match decode s.window with
  | .ok (i, _) => .ok i
  | .error e => .error (fetchFault s e)

/-- Writing bytes at consecutive addresses. -/
def State.writeBytes (s : State) : Word → List Byte → State
  | _, [] => s
  | a, b :: rest => (s.write a b).writeBytes (a + 1) rest

/-- The state with the given bytes standing where the next step fetches, and Running: at PC, or, when they would run
past 0xFFFF there, at 0x0000 with PC moved to it. DESIGN CHOICE, safe: log entry 6. -/
def State.placeInstruction (s : State) (bytes : List Byte) : State :=
  let base : Word := if s.pc.toNat + bytes.length ≤ Config.memorySize then s.pc else 0
  { s with pc := base, mode := .running }.writeBytes base bytes

end Sys2Proof.Machine
end

