-- ==== Sys2Proof/Machine/Tables.lean ====
section
/-! DEFINITION. The byte-length and cycle-cost tables of both opcode spaces (R95 to R98) and the cost of an
instruction (R129). They are constant data, not state (R20), and no meaning reads them (R371): an instruction's advance stands in
its own meaning, and the cost is an output of the step. -/

namespace Sys2Proof.Machine

/-- Row 0x of the base byte-length table (R95). -/
def lengthRow0 : List (Option Nat) :=
  [some 1, some 3, some 1, some 1, some 1, some 1, some 2, some 1, some 3, some 1, some 1, some 1,
   some 1, some 1, some 2, some 1]

/-- Row 1x of the base byte-length table (R95). -/
def lengthRow1 : List (Option Nat) :=
  [some 2, some 3, some 1, some 1, some 1, some 1, some 2, some 1, some 2, some 1, some 1, some 1,
   some 1, some 1, some 2, some 1]

/-- Row 2x of the base byte-length table (R95). -/
def lengthRow2 : List (Option Nat) :=
  [some 2, some 3, some 1, some 1, some 1, some 1, some 2, some 1, some 2, some 1, some 1, some 1,
   some 1, some 1, some 2, some 1]

/-- Row 3x of the base byte-length table (R95). -/
def lengthRow3 : List (Option Nat) :=
  [some 2, some 3, some 1, some 1, some 1, some 1, some 2, some 1, some 2, some 1, some 1, some 1,
   some 1, some 1, some 2, some 1]

/-- Row 4x of the base byte-length table (R95). -/
def lengthRow4 : List (Option Nat) :=
  [some 1, some 1, some 1, some 1, some 1, some 1, some 1, some 1, some 1, some 1, some 1, some 1,
   some 1, some 1, some 1, some 1]

/-- Row 5x of the base byte-length table (R95). -/
def lengthRow5 : List (Option Nat) :=
  [some 1, some 1, some 1, some 1, some 1, some 1, some 1, some 1, some 1, some 1, some 1, some 1,
   some 1, some 1, some 1, some 1]

/-- Row 6x of the base byte-length table (R95). -/
def lengthRow6 : List (Option Nat) :=
  [some 1, some 1, some 1, some 1, some 1, some 1, some 1, some 1, some 1, some 1, some 1, some 1,
   some 1, some 1, some 1, some 1]

/-- Row 7x of the base byte-length table (R95). -/
def lengthRow7 : List (Option Nat) :=
  [some 1, some 1, some 1, some 1, some 1, some 1, some 1, some 1, some 1, some 1, some 1, some 1,
   some 1, some 1, some 1, some 1]

/-- Row 8x of the base byte-length table (R95). -/
def lengthRow8 : List (Option Nat) :=
  [some 1, some 1, some 1, some 1, some 1, some 1, some 1, some 1, some 1, some 1, some 1, some 1,
   some 1, some 1, some 1, some 1]

/-- Row 9x of the base byte-length table (R95). -/
def lengthRow9 : List (Option Nat) :=
  [some 1, some 1, some 1, some 1, some 1, some 1, some 1, some 1, some 1, some 1, some 1, some 1,
   some 1, some 1, some 1, some 1]

/-- Row Ax of the base byte-length table (R95). -/
def lengthRowA : List (Option Nat) :=
  [some 1, some 1, some 1, some 1, some 1, some 1, some 1, some 1, some 1, some 1, some 1, some 1,
   some 1, some 1, some 1, some 1]

/-- Row Bx of the base byte-length table (R95). -/
def lengthRowB : List (Option Nat) :=
  [some 1, some 1, some 1, some 1, some 1, some 1, some 1, some 1, some 1, some 1, some 1, some 1,
   some 1, some 1, some 1, some 1]

/-- Row Cx of the base byte-length table (R95). -/
def lengthRowC : List (Option Nat) :=
  [some 1, some 1, some 3, some 3, some 3, some 1, some 2, some 1, some 1, some 1, some 3, some 1,
   some 3, some 3, some 2, some 1]

/-- Row Dx of the base byte-length table (R95). -/
def lengthRowD : List (Option Nat) :=
  [some 1, some 1, some 3, none, some 3, some 1, some 2, some 1, some 1, some 1, some 3, none, some 3,
   none, some 2, some 1]

/-- Row Ex of the base byte-length table (R95). -/
def lengthRowE : List (Option Nat) :=
  [some 2, some 1, some 1, none, none, some 1, some 2, some 1, some 2, some 1, some 3, none, none,
   none, some 2, some 1]

/-- Row Fx of the base byte-length table (R95). -/
def lengthRowF : List (Option Nat) :=
  [some 2, some 1, some 1, some 1, none, some 1, some 2, some 1, some 2, some 1, some 3, some 1, none,
   none, some 2, some 1]

/-- The base byte-length table (R95). -/
def lengthTable : List (List (Option Nat)) :=
  [lengthRow0, lengthRow1, lengthRow2, lengthRow3, lengthRow4, lengthRow5, lengthRow6, lengthRow7,
   lengthRow8, lengthRow9, lengthRowA, lengthRowB, lengthRowC, lengthRowD, lengthRowE, lengthRowF]

/-- Row 0x of the base cycle table (R96). -/
def cycleRow0 : List (Option (Nat × Nat)) :=
  [some (4, 4), some (12, 12), some (8, 8), some (8, 8), some (4, 4), some (4, 4), some (8, 8),
   some (4, 4), some (20, 20), some (8, 8), some (8, 8), some (8, 8), some (4, 4), some (4, 4),
   some (8, 8), some (4, 4)]

/-- Row 1x of the base cycle table (R96). -/
def cycleRow1 : List (Option (Nat × Nat)) :=
  [some (4, 4), some (12, 12), some (8, 8), some (8, 8), some (4, 4), some (4, 4), some (8, 8),
   some (4, 4), some (12, 12), some (8, 8), some (8, 8), some (8, 8), some (4, 4), some (4, 4),
   some (8, 8), some (4, 4)]

/-- Row 2x of the base cycle table (R96). -/
def cycleRow2 : List (Option (Nat × Nat)) :=
  [some (12, 8), some (12, 12), some (8, 8), some (8, 8), some (4, 4), some (4, 4), some (8, 8),
   some (4, 4), some (12, 8), some (8, 8), some (8, 8), some (8, 8), some (4, 4), some (4, 4),
   some (8, 8), some (4, 4)]

/-- Row 3x of the base cycle table (R96). -/
def cycleRow3 : List (Option (Nat × Nat)) :=
  [some (12, 8), some (12, 12), some (8, 8), some (8, 8), some (12, 12), some (12, 12), some (12, 12),
   some (4, 4), some (12, 8), some (8, 8), some (8, 8), some (8, 8), some (4, 4), some (4, 4),
   some (8, 8), some (4, 4)]

/-- Row 4x of the base cycle table (R96). -/
def cycleRow4 : List (Option (Nat × Nat)) :=
  [some (4, 4), some (4, 4), some (4, 4), some (4, 4), some (4, 4), some (4, 4), some (8, 8),
   some (4, 4), some (4, 4), some (4, 4), some (4, 4), some (4, 4), some (4, 4), some (4, 4),
   some (8, 8), some (4, 4)]

/-- Row 5x of the base cycle table (R96). -/
def cycleRow5 : List (Option (Nat × Nat)) :=
  [some (4, 4), some (4, 4), some (4, 4), some (4, 4), some (4, 4), some (4, 4), some (8, 8),
   some (4, 4), some (4, 4), some (4, 4), some (4, 4), some (4, 4), some (4, 4), some (4, 4),
   some (8, 8), some (4, 4)]

/-- Row 6x of the base cycle table (R96). -/
def cycleRow6 : List (Option (Nat × Nat)) :=
  [some (4, 4), some (4, 4), some (4, 4), some (4, 4), some (4, 4), some (4, 4), some (8, 8),
   some (4, 4), some (4, 4), some (4, 4), some (4, 4), some (4, 4), some (4, 4), some (4, 4),
   some (8, 8), some (4, 4)]

/-- Row 7x of the base cycle table (R96). -/
def cycleRow7 : List (Option (Nat × Nat)) :=
  [some (8, 8), some (8, 8), some (8, 8), some (8, 8), some (8, 8), some (8, 8), some (4, 4),
   some (8, 8), some (4, 4), some (4, 4), some (4, 4), some (4, 4), some (4, 4), some (4, 4),
   some (8, 8), some (4, 4)]

/-- Row 8x of the base cycle table (R96). -/
def cycleRow8 : List (Option (Nat × Nat)) :=
  [some (4, 4), some (4, 4), some (4, 4), some (4, 4), some (4, 4), some (4, 4), some (8, 8),
   some (4, 4), some (4, 4), some (4, 4), some (4, 4), some (4, 4), some (4, 4), some (4, 4),
   some (8, 8), some (4, 4)]

/-- Row 9x of the base cycle table (R96). -/
def cycleRow9 : List (Option (Nat × Nat)) :=
  [some (4, 4), some (4, 4), some (4, 4), some (4, 4), some (4, 4), some (4, 4), some (8, 8),
   some (4, 4), some (4, 4), some (4, 4), some (4, 4), some (4, 4), some (4, 4), some (4, 4),
   some (8, 8), some (4, 4)]

/-- Row Ax of the base cycle table (R96). -/
def cycleRowA : List (Option (Nat × Nat)) :=
  [some (4, 4), some (4, 4), some (4, 4), some (4, 4), some (4, 4), some (4, 4), some (8, 8),
   some (4, 4), some (4, 4), some (4, 4), some (4, 4), some (4, 4), some (4, 4), some (4, 4),
   some (8, 8), some (4, 4)]

/-- Row Bx of the base cycle table (R96). -/
def cycleRowB : List (Option (Nat × Nat)) :=
  [some (4, 4), some (4, 4), some (4, 4), some (4, 4), some (4, 4), some (4, 4), some (8, 8),
   some (4, 4), some (4, 4), some (4, 4), some (4, 4), some (4, 4), some (4, 4), some (4, 4),
   some (8, 8), some (4, 4)]

/-- Row Cx of the base cycle table (R96). -/
def cycleRowC : List (Option (Nat × Nat)) :=
  [some (20, 8), some (12, 12), some (16, 12), some (16, 16), some (24, 12), some (16, 16),
   some (8, 8), some (16, 16), some (20, 8), some (16, 16), some (16, 12), some (4, 4), some (24, 12),
   some (24, 24), some (8, 8), some (16, 16)]

/-- Row Dx of the base cycle table (R96). -/
def cycleRowD : List (Option (Nat × Nat)) :=
  [some (20, 8), some (12, 12), some (16, 12), none, some (24, 12), some (16, 16), some (8, 8),
   some (16, 16), some (20, 8), some (16, 16), some (16, 12), none, some (24, 12), none, some (8, 8),
   some (16, 16)]

/-- Row Ex of the base cycle table (R96). -/
def cycleRowE : List (Option (Nat × Nat)) :=
  [some (12, 12), some (12, 12), some (8, 8), none, none, some (16, 16), some (8, 8), some (16, 16),
   some (16, 16), some (4, 4), some (16, 16), none, none, none, some (8, 8), some (16, 16)]

/-- Row Fx of the base cycle table (R96). -/
def cycleRowF : List (Option (Nat × Nat)) :=
  [some (12, 12), some (12, 12), some (8, 8), some (4, 4), none, some (16, 16), some (8, 8),
   some (16, 16), some (12, 12), some (8, 8), some (16, 16), some (4, 4), none, none, some (8, 8),
   some (16, 16)]

/-- The base cycle table: the costs when the condition holds and when it fails, equal for an instruction without a
condition (R96). -/
def cycleTable : List (List (Option (Nat × Nat))) :=
  [cycleRow0, cycleRow1, cycleRow2, cycleRow3, cycleRow4, cycleRow5, cycleRow6, cycleRow7,
   cycleRow8, cycleRow9, cycleRowA, cycleRowB, cycleRowC, cycleRowD, cycleRowE, cycleRowF]

/-- The entry of a base table: row op[7:4], column op[3:0] (R98). -/
def tableEntry {α : Type} (table : List (List (Option α))) (op : Byte) : Option α :=
  ((table[op.toNat / 16]?).bind fun row => row[op.toNat % 16]?).join

/-- The byte length of a base opcode (R95). -/
def baseLength (op : Byte) : Option Nat := tableEntry lengthTable op

/-- The cycle cell of a base opcode: taken, not taken (R96). -/
def baseCycles (op : Byte) : Option (Nat × Nat) := tableEntry cycleTable op

/-- The byte length of every extended instruction (R97). -/
def extLength : Nat := 2

/-- The cycle cost of an extended sub-opcode, prefix included: 8 on a register, 12 for BIT b,(HL), 16 for the other
(HL) forms (R97). -/
def extCycles (cbop : Byte) : Nat :=
  if fieldZ cbop ≠ 6 then 8 else if fieldX cbop = 1 then 12 else 16

/-- The length the tables give the instruction whose first byte is `op` (R101). -/
def lengthOf (op : Byte) : Option Nat :=
  if op = Config.escapeByte then some extLength else baseLength op

/-- The condition of a conditional transfer (R282, R285, R287, R289). -/
def condition (i : Instr) : Option Cond :=
  match i.form with
  | .jpIf cc _ => some cc
  | .jrIf cc _ => some cc
  | .callIf cc _ => some cc
  | .retIf cc => some cc
  | _ => none

/-- Whether an instruction takes its transfer in a state; an instruction without a condition has one cost (R129). -/
def takes (i : Instr) (s : State) : Bool :=
  match condition i with
  | some cc => s.cond cc
  | none => true

/-- The cycle cost a successful step reports for an instruction, in clock cycles: the extended table's entry, or the
base cell's taken or not-taken value (R129). None for a row that never completes as itself: an illegal opcode has
no entry, and the escape byte's own cell is never reported (R96, R306). -/
def cycleCost (i : Instr) (s : State) : Option Nat :=
  match encode i with
  | [] => none
  | op :: rest =>
    if op = Config.escapeByte then rest.head?.map extCycles
    else (baseCycles op).map fun cell => if takes i s then cell.1 else cell.2

end Sys2Proof.Machine
end

