-- ==== Sys2Proof/Machine/Driver.lean ====
section
/-! DEFINITION. The Execution Driver (R120 to R122, R129): one fetch-decode-execute-advance, and the cycle cost a
successful step reports beside its result (90_conflicts.md C2). -/

namespace Sys2Proof.Machine

/-- One step: idle while suspended, else fetch and execute (R121, R122). DESIGN CHOICE, safe: the mode is looked at here
and not in `exec` (log entry 7). -/
def runStep (s : State) : Result :=
  match s.mode with
  | .halted => .next s
  | .stopped => .next s
  | .running =>
    match fetch s with
    | .ok i => exec i s
    | .error f => raise f

/-- The cycle cost the step reports: 4 while suspended, the instruction's when it succeeds, none when it fails
(R122, R129). It is an output, not state, and no rule reads it (R31, R371). DESIGN CHOICE of place, safe: log entry 8. -/
def stepCost (s : State) : Option Nat :=
  match s.mode with
  | .halted => some Config.suspendedCycles
  | .stopped => some Config.suspendedCycles
  | .running =>
    match fetch s with
    | .error _ => none
    | .ok i =>
      match exec i s with
      | .next _ => cycleCost i s
      | .fault _ => none
      | .refused _ => none

end Sys2Proof.Machine
end

