-- ==== Sys2Proof/Machine/Step.lean ====
section
/-! DEFINITION. The step of the core, and the host's way of placing one instruction where the step fetches. -/

namespace Sys2Proof.Machine

/-- `step()`: the only operation that executes instructions (R11, R120). -/
def step (s : State) : Host.Outcome State Fault Refusal := runStep s

/-- The state with the opcode-table word's instruction placed where the next step fetches. It stands for the loader's
bus writes before a step (R62, R367). -/
def State.withFetchWord (s : State) (nbits w : Nat) : State := s.placeInstruction (tableBytes nbits w)

end Sys2Proof.Machine
end

