-- ==== Sys2Proof/Machine/Seam.lean ====
section
/-! DEFINITION. What the outside world can do to a core between two steps (R11, R12, R62): bus reads and writes by the
host, the wake and interrupt-entry actions of the external collaborator (R330, R331), the record of a failure that is never
cleared (R339), and the end of a run (R368). None of it is part of a step, and a host action is a value, so a whole
history is plain data. -/

namespace Sys2Proof.Machine

/-- The interrupt sources of the hardware, which the collaborator delivers (R326, R330). -/
inductive Interrupt where
  | vblank | lcdStat | timer | serial | joypad
deriving DecidableEq, Repr

/-- The handler address of a source (R59, R330). -/
def Interrupt.vector : Interrupt → Word
  | .vblank => 0x0040
  | .lcdStat => 0x0048
  | .timer => 0x0050
  | .serial => 0x0058
  | .joypad => 0x0060

/-- The bit of IF and IE that belongs to a source (R326). -/
def Interrupt.bitIndex : Interrupt → Nat
  | .vblank => 0
  | .lcdStat => 1
  | .timer => 2
  | .serial => 3
  | .joypad => 4

/-- The sources in priority order, the lowest-numbered first (R329). -/
def Interrupt.byPriority : List Interrupt := [.vblank, .lcdStat, .timer, .serial, .joypad]

/-- The source the hardware's collaborator would deliver: the first that is both pending and enabled in the given IF
and IE bytes (R326, R329). -/
def Interrupt.select (ifBits ieBits : Byte) : Option Interrupt :=
  Interrupt.byPriority.find? fun irq => ifBits.getLsbD irq.bitIndex && ieBits.getLsbD irq.bitIndex

/-- The source pending and enabled in a collaborator that keeps IF at 0xFF0F and IE at 0xFFFF, which the core treats
as plain memory (R327). -/
def State.selectedInterrupt (s : State) : Option Interrupt :=
  Interrupt.select (s.read 0xFF0F) (s.read 0xFFFF)

/-- One core with the failure recorded against it, if any, and the cycle costs the host has added up (R31, R33, R339). -/
structure MachineInstance where
  /-- The architectural state. -/
  state : State
  /-- The failure of a step, never cleared (R339). -/
  failure : Option Fault
  /-- The accumulated cost of its steps and interrupt entries, in clock cycles; the core never reads it (R31). -/
  cycles : Nat
deriving DecidableEq, Repr

/-- The instance a host creates: the power-on state, no failure, no cost (R360 to R366). -/
def MachineInstance.powerOn : MachineInstance := { state := State.reset, failure := none, cycles := 0 }

/-- What the host or the collaborator does between two points of a history (R11, R12). -/
inductive HostAction where
  /-- Call `step()`. -/
  | step
  /-- Bus `read(address)`. -/
  | read (address : Int)
  /-- Bus `write(address, byte)`. -/
  | write (address : Int) (v : Byte)
  /-- The wake seam action (R331). -/
  | wake
  /-- The interrupt-entry seam action for a source (R330). -/
  | enter (irq : Interrupt)
deriving DecidableEq, Repr

/-- What an action answers. -/
inductive Reply where
  /-- The action was done and answers nothing more. -/
  | done
  /-- The byte read. -/
  | byte (v : Byte)
  /-- A step or an interrupt entry succeeded with this cost (R129, R330). -/
  | cost (cycles : Nat)
  /-- A step or a bus access failed (R320). -/
  | failed (f : Fault)
  /-- Not performed: the collaborator enters a handler only when IME = 1 (R328), and a failed instance takes no
  further step (R339). -/
  | notPerformed
deriving DecidableEq, Repr

/-- `step()` on an instance: a failed instance takes no further step (R339). DESIGN CHOICE, safe: the answer
`notPerformed` (log entries 1 and 20). -/
def MachineInstance.doStep (m : MachineInstance) : MachineInstance × Reply :=
  match m.failure with
  | some _ => (m, .notPerformed)
  | none =>
    match step m.state with
    | .next t =>
      let cost := (stepCost m.state).getD 0
      ({ m with state := t, cycles := m.cycles + cost }, .cost cost)
    | .fault f => ({ m with failure := some f }, .failed f)
    | .refused _ => (m, .notPerformed)

/-- A host bus read: its failure is of the access only and changes nothing (R68, R339). -/
def MachineInstance.doRead (m : MachineInstance) (address : Int) : MachineInstance × Reply :=
  match m.state.busRead address with
  | .ok v => (m, .byte v)
  | .error f => (m, .failed f)

/-- A host bus write: its failure is of the access only and changes nothing (R68, R339). -/
def MachineInstance.doWrite (m : MachineInstance) (address : Int) (v : Byte) : MachineInstance × Reply :=
  match m.state.busWrite address v with
  | .ok t => ({ m with state := t }, .done)
  | .error f => (m, .failed f)

/-- Interrupt entry, which the collaborator performs only when IME = 1; its cost is reported to the host (R328, R330).
DESIGN CHOICE, safe: the answer `notPerformed` where IME = 0 (log entry 9). -/
def MachineInstance.doEnter (m : MachineInstance) (irq : Interrupt) : MachineInstance × Reply :=
  if m.state.ime then
    ({ m with
        state := m.state.enterInterrupt irq.vector
        cycles := m.cycles + Config.entryCycles }, .cost Config.entryCycles)
  else (m, .notPerformed)

/-- One action on an instance. -/
def MachineInstance.act (m : MachineInstance) : HostAction → MachineInstance × Reply
  | .step => m.doStep
  | .read address => m.doRead address
  | .write address v => m.doWrite address v
  | .wake => ({ m with state := m.state.wake }, .done)
  | .enter irq => m.doEnter irq

/-- The instance after a history of actions. -/
def MachineInstance.after (m : MachineInstance) : List HostAction → MachineInstance
  | [] => m
  | action :: rest => (m.act action).1.after rest

/-! ## The end of a run -/

/-- The action is one of the collaborator's two seam actions (R330, R331). -/
def HostAction.isSeam : HostAction → Bool
  | .step => false
  | .read _ => false
  | .write _ _ => false
  | .wake => true
  | .enter _ => true

/-- The action is a seam action that is performed; an entry with IME = 0 is not (R328). DEDUCED, safe: log entry 25. -/
def MachineInstance.performsSeam (m : MachineInstance) (action : HostAction) : Bool :=
  action.isSeam && decide ((m.act action).2 ≠ .notPerformed)

/-- The collaborator performs no seam action in the rest of a history (R368). -/
def MachineInstance.leftAlone (m : MachineInstance) : List HostAction → Bool
  | [] => true
  | action :: rest => !m.performsSeam action && (m.act action).1.leftAlone rest

/-- The action is a successful step after which the mode is Halted (R368). -/
def MachineInstance.haltsBy (m : MachineInstance) (action : HostAction) : Bool :=
  match action, m.act action with
  | .step, (n, .cost _) => decide (n.state.mode = .halted)
  | _, _ => false

/-- The instance at the end of its run: right after the first successful step after which the mode is Halted and no
seam action follows; none where the history has no such step (R340, R368). A later wake or entry makes an earlier HALT
no end. DEDUCED, safe: log entry 25. -/
def MachineInstance.endOfRun (m : MachineInstance) : List HostAction → Option MachineInstance
  | [] => none
  | action :: rest =>
    if m.haltsBy action && (m.act action).1.leftAlone rest then some (m.act action).1
    else (m.act action).1.endOfRun rest

end Sys2Proof.Machine
end

