-- ==== Sys2Proof/WellFormed.lean ====
section
/-! DEFINITION. When an `Instr` term is one of the 500 instructions of the two opcode maps (R93, R94, R133). Every
operand is a byte or a 16-bit word and every value of it is admitted (R87 to R90, R100, R302), so the checks are on the row:
the eleven illegal values have no table entry (R99), and the escape byte is not an instruction of its own (R306). -/

namespace Sys2Proof

/-- The row's opcode has a table entry: it is none of the eleven illegal values (R99). -/
def Instr.hasTableEntry (i : Instr) : Bool :=
  match i.form with
  | .illegal _ => false
  | _ => true

/-- The row is a whole instruction: it is not the escape byte without its sub-opcode (R306). -/
def Instr.isWhole (i : Instr) : Bool :=
  match i.form with
  | .escape => false
  | _ => true

/-- The term is one of the 244 base or the 256 extended instructions (R133). DESIGN CHOICE, safe: log entry 21. -/
def Instr.wellFormed (i : Instr) : Bool := i.hasTableEntry && i.isWhole

end Sys2Proof
end

