-- ==== Sys2Proof/Safety.lean ====
section
/-! DEFINITION. The words claims are made in: the invariant of the state, when a step completes, the end of a run
(R368), what an instruction leaves unchanged (its frame), and what its encoding says of it. -/

namespace Sys2Proof.Machine

/-- The invariant of every reachable state: memory is in its canonical form, and bits 3..0 of F are 0 (R26, R50). -/
def State.Inv (s : State) : Prop := s.mem.wf = true ∧ s.f &&& 0x0F = 0

/-- A safe step: it ends in a next state, neither in a failure nor in a refusal. -/
def StepCompletes (s : State) : Prop := ∃ t, step s = .next t

/-- A step that halts: it runs from Running and succeeds with the mode Halted (R301, R368). -/
def StepHalts (s t : State) : Prop := s.mode = .running ∧ step s = .next t ∧ t.mode = .halted

/-- After the actions `before`, a step succeeds with the mode Halted and the instance `n`, and the collaborator performs
no seam action in `rest` (R368). -/
def HaltLeftAlone (m : MachineInstance) (before rest : List HostAction) (n : MachineInstance) : Prop :=
  (∃ cost, (m.after before).act .step = (n, .cost cost)) ∧ n.state.mode = .halted ∧ n.leftAlone rest = true

/-- The end of a run (R368): the first step of the history that halts and is left alone, and the instance after it. A
failed step is never an end, nor is STOP; a history without such a step has not ended. -/
def EndsRun (m : MachineInstance) (history : List HostAction) (n : MachineInstance) : Prop :=
  ∃ before rest, history = before ++ .step :: rest ∧ HaltLeftAlone m before rest n ∧
    ∀ before' rest' n', history = before' ++ .step :: rest' → HaltLeftAlone m before' rest' n' →
      before.length ≤ before'.length

/-- What an action does to a core that no step and no seam action moves: a host write inside the address space stores its
byte, and every other action changes nothing (R51, R52, R68). -/
def State.hostWrite (s : State) : HostAction → State
  | .write address v =>
    match s.busWrite address v with
    | .ok t => t
    | .error _ => s
  | .step => s
  | .read _ => s
  | .wake => s
  | .enter _ => s

/-- The host's writes among some actions, made in their order. -/
def State.hostWrites (s : State) (actions : List HostAction) : State := actions.foldl State.hostWrite s

/-- Every 8-bit register but those listed is unchanged. -/
def KeepsRegs (s t : State) (written : List Reg8) : Prop := ∀ r, r ∉ written → t.reg r = s.reg r

/-- Every byte of memory outside the listed addresses reads as before. -/
def KeepsMem (s t : State) (stored : List Word) : Prop := ∀ a, a ∉ stored → t.read a = s.read a

/-- The execution state and the interrupt enable are unchanged. -/
def KeepsControl (s t : State) : Prop := t.mode = s.mode ∧ t.ime = s.ime

/-- The frame of an instruction: the registers, the bytes and the control state it leaves alone. SP, F and PC stand in
each claim by themselves. -/
def Frame (s t : State) (written : List Reg8) (stored : List Word) : Prop :=
  KeepsRegs s t written ∧ KeepsMem s t stored ∧ KeepsControl s t

/-- The registers an operand location names when it is a destination. -/
def writtenRegs : Loc → List Reg8
  | .reg r => [r]
  | .atHl => []

/-- The address an operand location names, in a state, when it is a destination in memory. -/
def State.storedAt (s : State) : Loc → List Word
  | .reg _ => []
  | .atHl => [s.hl]

/-- The 8-bit registers of a pair; SP is none of them (R22, R24). -/
def pairRegs : Pair → List Reg8
  | .bc => [.b, .c]
  | .de => [.d, .e]
  | .hl => [.h, .l]
  | .sp => []

/-- The value a location holds after an instruction that wrote it: a register of the new state, or the byte at the
address HL had. A stored byte reads back over every canonical memory, and memory is canonical in every reachable state. -/
def Holds (s t : State) (dst : Loc) (v : Byte) : Prop :=
  match dst with
  | .reg r => t.reg r = v
  | .atHl => s.mem.wf = true → t.read s.hl = v

/-- A push of `v` in the stack (R170): SP two lower, the high byte at the old SP - 1 and the low byte at SP - 2. -/
def Pushed (s t : State) (v : Word) : Prop :=
  t.sp = s.sp - 2 ∧ (s.mem.wf = true → joinBytes (t.read (s.sp - 1)) (t.read (s.sp - 2)) = v)

/-- The word on top of the stack: the high byte at SP + 1, the low byte at SP (R171). -/
def State.stackTop (s : State) : Word := joinBytes (s.read (s.sp + 1)) (s.read s.sp)

/-- A figure that is one number for a register operand and another for the byte at HL. -/
def byLoc (l : Loc) (onReg onMem : Nat) : Nat :=
  match l with
  | .reg _ => onReg
  | .atHl => onMem

/-- F with the four flags given, most significant first, and bits 3..0 zero (R25, R26). -/
def flagByte (z n h c : Bool) : Byte := (Flags.mk z n h c).toByte

/-- Bit 7 of F, the Zero flag (R25). -/
def State.zf (s : State) : Bool := s.f.getLsbD 7

/-- Bit 6 of F, the Subtract flag (R25). -/
def State.nf (s : State) : Bool := s.f.getLsbD 6

/-- Bit 5 of F, the Half-Carry flag (R25). -/
def State.hf (s : State) : Bool := s.f.getLsbD 5

/-- Bit 4 of F, the Carry flag (R25). -/
def State.cf (s : State) : Bool := s.f.getLsbD 4

/-- Whether a condition holds, by the bits of F (R280). -/
def State.holdsCond (s : State) : Cond → Bool
  | .nz => !s.zf
  | .z => s.zf
  | .nc => !s.cf
  | .c => s.cf

/-- The instruction's row in the encoding: its bytes, and their decoding. -/
def HasBytes (i : Instr) (bytes : List Byte) : Prop := encode i = bytes ∧ decode bytes = .ok (i, [])

/-- The only failures of fetching the instruction: a Running step at a PC where its first byte stands but its last byte
would lie past 0xFFFF fails with OutOfRangeAddress(0x10000) (R124, R126, R322). -/
def FetchFailsPastTop (i : Instr) : Prop :=
  ∀ u : State, u.mode = .running → (encode i).head? = some (u.read u.pc) →
    u.pc.toNat + (encode i).length > Config.memorySize →
      step u = .fault (.outOfRangeAddress 0x10000)

/-- What an instruction's encoding and its only failures are. -/
def Row (i : Instr) (bytes : List Byte) : Prop := HasBytes i bytes ∧ FetchFailsPastTop i

/-- An accumulator operation's three operand forms (R195): what the row is, and, in a state, the value of the second
operand, the length and the cycle cost. -/
inductive AluForm where
  | loc (src : Loc)
  | imm (d8 : Byte)
deriving DecidableEq, Repr

/-- The form of an accumulator operation's row (R195). -/
def AluForm.form (op : AluOp) : AluForm → Form
  | .loc src => .alu op src
  | .imm d8 => .aluImm op d8

/-- The bytes of an accumulator operation: `10ooosss`, or `11ooo110` and the immediate (R195). -/
def AluForm.bytes (ooo : BitVec 3) : AluForm → List Byte
  | .loc src => [fieldsXYZ 2 ooo src.code]
  | .imm d8 => [fieldsXYZ 3 ooo 6, d8]

/-- The second operand of an accumulator operation (R195). -/
def AluForm.value (s : State) : AluForm → Byte
  | .loc src => s.loc src
  | .imm d8 => d8

/-- The length of an accumulator operation (R195). -/
def AluForm.length : AluForm → Nat
  | .loc _ => 1
  | .imm _ => 2

/-- The cycle cost of an accumulator operation (R195). -/
def AluForm.cost : AluForm → Nat
  | .loc src => byLoc src 4 8
  | .imm _ => 8

/-- The eleven illegal base opcodes (R99). -/
def illegalOpcodes : List Byte := [0xD3, 0xDB, 0xDD, 0xE3, 0xE4, 0xEB, 0xEC, 0xED, 0xF4, 0xFC, 0xFD]

/-- The instructions whose flag lines write F, besides POP AF (R27). -/
def writesF (i : Instr) : Bool :=
  match i.form with
  | .ldHlSp _ | .alu _ _ | .aluImm _ _ | .inc _ | .dec _ | .daa | .cpl | .scf | .ccf | .addHl _ | .addSp _
  | .rlca | .rrca | .rla | .rra | .rot _ _ | .bit _ _ | .pop .af => true
  | _ => false

/-- The length of the instruction whose row is `i`: its encoding's, and for the escape row the two bytes of the
extended instruction it stands for (R80, R306). -/
def rowLength (i : Instr) : Nat :=
  match i.form with
  | .escape => 2
  | _ => (encode i).length

end Sys2Proof.Machine
end

