-- ==== Sys2Proof/Certificates/Slice0/Obligations.lean ====
section
/-! DEFINITION. The statements for the provers. An instruction's statement gives, for every row of its form: the row's
bytes and their decoding, the only failures of fetching it, and, from every state, a next state with the result, the
flags, the cycle cost, PC, and what is unchanged. The rows a statement speaks of are named in its docstring by their
constructors. A stored byte is claimed to read back over a canonical memory (`Memory.wf`), which every reachable state
has (StepKeepsTheInvariant, ResetMeetsTheInvariant). -/

open Sys2Proof Sys2Proof.Machine

/-! ## Encoding -/

/-- Decoding an encoded instruction gives it back, with every operand value, whatever bytes follow (R80 to R94). It
holds of all 500 instructions and of the eleven illegal rows; of the escape row alone it cannot, since with a byte
after it that byte is its sub-opcode (R92). -/
def Obligations.DecodingAnEncodedInstructionGivesItBack : Prop :=
  ∀ (i : Instr) (rest : List Byte), i.isWhole = true → decode (encode i ++ rest) = .ok (i, rest)

/-- The other direction: what the decoder accepts is exactly the encoding of the instruction it answers followed by
the bytes it left, so that no two byte strings share a meaning unless they are the same bytes (R93, R94, R101). -/
def Obligations.DecodedBytesAreTheEncoding : Prop :=
  ∀ (bytes : List Byte) (i : Instr) (rest : List Byte),
    decode bytes = .ok (i, rest) → encode i ++ rest = bytes

/-- Words written out from the maps R93 and R94, one or two a family: the instruction each stands for. -/
def Obligations.WrittenOutWordsDecode : Prop :=
  decode [0b01000001#8] = .ok (.ldBC, []) ∧
  decode [0b00111110#8, 0x05] = .ok (.ldAD8 0x05, []) ∧
  decode [0b00100001#8, 0x12, 0x34] = .ok (.ldHlD16 0x3412, []) ∧
  decode [0b11110101#8] = .ok (.pushAf, []) ∧
  decode [0b10101111#8] = .ok (.xorA, []) ∧
  decode [0b11011110#8, 0x0F] = .ok (.sbcAD8 0x0F, []) ∧
  decode [0b00111001#8] = .ok (.addHlSp, []) ∧
  decode [0b00011111#8] = .ok (.rra, []) ∧
  decode [0b11001011#8, 0b00110111#8] = .ok (.swapA, []) ∧
  decode [0b11001011#8, 0b01111110#8] = .ok (.bit7AtHl, []) ∧
  decode [0b11000011#8, 0x00, 0x10] = .ok (.jpA16 0x1000, []) ∧
  decode [0b00111000#8, 0xFE] = .ok (.jrCE8 0xFE, []) ∧
  decode [0b11111111#8] = .ok (.rst38, []) ∧
  decode [0b01110110#8] = .ok (.halt, []) ∧
  decode [0b00010000#8, 0xCB] = .ok (.stop 0xCB, [])

/-- The length of an instruction is found from its first byte alone, by the tables R95 and R97 (R101): what the
decoder takes off the front has the table's length, and an opcode without a length is one of the eleven illegal
values, of which the decoder takes one byte. The premise that a byte follows the first shuts out only the escape byte
standing alone, which has no length until its sub-opcode is read. -/
def Obligations.LengthComesFromTheFirstByte : Prop :=
  ∀ (op x : Byte) (more : List Byte) (i : Instr) (rest : List Byte),
    decode (op :: x :: more) = .ok (i, rest) →
      (∀ n, lengthOf op = some n → (encode i).length = n) ∧
      (lengthOf op = none ↔ op ∈ illegalOpcodes) ∧
      (op ∈ illegalOpcodes → i.form = .illegal op ∧ encode i = [op])

/-- Every one of the 256 extended sub-opcodes is an instruction, by its fields: x = 0 the rotate or shift y, x = 1, 2,
3 BIT, RES, SET of bit y, on the operand z; it is two bytes long, and none is illegal (R91, R94, R100). -/
def Obligations.EverySubOpcodeIsAnInstruction : Prop :=
  ∀ (cbop : Byte) (rest : List Byte), ∃ i,
    decode (0xCB :: cbop :: rest) = .ok (i, rest) ∧ i.wellFormed = true ∧ encode i = [0xCB, cbop] ∧
    ((fieldX cbop = 0 ∧ ∃ op dst, i.form = .rot op dst ∧ op.code = fieldY cbop ∧ dst.code = fieldZ cbop) ∨
     (fieldX cbop = 1 ∧ ∃ src, i.form = .bit (fieldY cbop) src ∧ src.code = fieldZ cbop) ∨
     (fieldX cbop = 2 ∧ ∃ dst, i.form = .res (fieldY cbop) dst ∧ dst.code = fieldZ cbop) ∨
     (fieldX cbop = 3 ∧ ∃ dst, i.form = .set (fieldY cbop) dst ∧ dst.code = fieldZ cbop))

/-! ## The step -/

/-- A Running step whose bytes at PC decode runs that instruction, and nothing is added around it: fetching at PC, PC
+ 1, PC + 2 as far as memory reaches (R121, R123, R126). -/
def Obligations.StepRunsTheDecodedInstruction : Prop :=
  ∀ (s : State) (i : Instr) (rest : List Byte), s.mode = .running →
    (s.pc.toNat ≤ 0xFFFD → decode [s.read s.pc, s.read (s.pc + 1), s.read (s.pc + 2)] = .ok (i, rest) →
      step s = exec i s) ∧
    (s.pc.toNat = 0xFFFE → decode [s.read s.pc, s.read (s.pc + 1)] = .ok (i, rest) → step s = exec i s) ∧
    (s.pc.toNat = 0xFFFF → decode [s.read s.pc] = .ok (i, rest) → step s = exec i s)

/-- While the mode is Halted or Stopped a step fetches nothing, changes nothing and succeeds with cost 4 (R122). -/
def Obligations.SuspendedStepChangesNothing : Prop :=
  ∀ s : State, s.mode = .halted ∨ s.mode = .stopped → step s = .next s ∧ stepCost s = some 4

/-- Exactly when a step fails, and how (R130, R131, R320 to R322): the opcode is one of the eleven illegal values; or
a byte of the instruction would lie past 0xFFFF; or it is LD (a16),SP with a16 = 0xFFFF. A step is never refused, so
in every other state it succeeds. -/
def Obligations.StepFailsExactlyWhenTheSpecSaysSo : Prop :=
  ∀ s : State,
    (∀ f, step s = .fault f ↔ s.mode = .running ∧
      ((s.read s.pc ∈ illegalOpcodes ∧ f = .unimplementedOpcode (s.read s.pc) s.pc) ∨
       (f = .outOfRangeAddress 0x10000 ∧
        ((∃ n, lengthOf (s.read s.pc) = some n ∧ s.pc.toNat + n > 0x10000) ∨
         (s.pc.toNat ≤ 0xFFFD ∧ s.read s.pc = 0x08 ∧ s.read (s.pc + 1) = 0xFF ∧
          s.read (s.pc + 2) = 0xFF))))) ∧
    ∀ r, step s ≠ .refused r

/-- Every instruction completes from every state, whatever its operands and the state: only LD (a16),SP with a16 =
0xFFFF does not (R133, R174, R334). -/
def Obligations.EveryInstructionCompletes : Prop :=
  ∀ (i : Instr) (s : State), i.wellFormed = true → i.form ≠ .ldAbsSp 0xFFFF → ∃ t, exec i s = .next t

/-- PC after an instruction (R128): a taken control transfer leaves it at exactly its target, never the target plus
the length, and every other instruction, an untaken transfer among them, leaves it its length further, modulo 2^16; an
extended instruction run through the escape row is two bytes long. -/
def Obligations.PcIsTheTargetOrTheNextInstruction : Prop :=
  ∀ (i : Instr) (s t : State), exec i s = .next t →
    t.pc = (match i.form with
      | .jp a16 | .call a16 => a16
      | .jpIf cc a16 | .callIf cc a16 => if s.holdsCond cc then a16 else s.pc + 3
      | .jpHl => s.hl
      | .jr e8 => BitVec.ofInt 16 (s.pc.toNat + 2 + e8.toInt)
      | .jrIf cc e8 => if s.holdsCond cc then BitVec.ofInt 16 (s.pc.toNat + 2 + e8.toInt) else s.pc + 2
      | .ret | .reti => s.stackTop
      | .retIf cc => if s.holdsCond cc then s.stackTop else s.pc + 1
      | .rst y => BitVec.ofNat 16 (8 * y.toNat)
      | _ => s.pc + BitVec.ofNat 16 (rowLength i))

/-- The cycle cost of a step (R122, R129): a suspended step reports 4, a failed step nothing, and a step that runs an
instruction its table entry: the extended entry by its sub-opcode, or the base cell's first value unless the
instruction is conditional and its condition fails. -/
def Obligations.StepReportsTheTableCost : Prop :=
  ∀ s : State,
    (s.mode ≠ .running → stepCost s = some 4) ∧
    (∀ f, step s = .fault f → stepCost s = none) ∧
    (∀ i t, s.mode = .running → fetch s = .ok i → exec i s = .next t →
      stepCost s = cycleCost i s ∧
      (∀ cbop, encode i = [0xCB, cbop] →
        cycleCost i s = some (if cbop.toNat % 8 ≠ 6 then 8 else if cbop.toNat / 64 = 1 then 12 else 16)) ∧
      (∀ op operands taken notTaken, encode i = op :: operands → op ≠ 0xCB → baseCycles op = some (taken, notTaken) →
        cycleCost i s = some
          (match i.form with
           | .jpIf cc _ | .jrIf cc _ | .callIf cc _ | .retIf cc => if s.holdsCond cc then taken else notTaken
           | _ => taken)))

/-- Placing one instruction where the step fetches, and stepping, runs exactly it: the state differs from the one
given in the three bytes placed, the mode, and PC, which goes to 0x0000 where they would run past 0xFFFF, and in
nothing else (the model's own convention, log entry 6). -/
def Obligations.PlacedInstructionIsTheOneThatRuns : Prop :=
  ∀ (s : State) (i : Instr) (pad : List Byte), s.mem.wf = true → i.isWhole = true →
    (encode i).length + pad.length = 3 →
      let p := s.placeInstruction (encode i ++ pad)
      step p = exec i p ∧ p.mode = .running ∧ p.pc = (if s.pc.toNat ≤ 0xFFFD then s.pc else 0) ∧
      [p.read p.pc, p.read (p.pc + 1), p.read (p.pc + 2)] = encode i ++ pad ∧
      KeepsMem s p [p.pc, p.pc + 1, p.pc + 2] ∧
      (∀ r, p.reg r = s.reg r) ∧ p.f = s.f ∧ p.sp = s.sp ∧ p.ime = s.ime

/-! ## Invariants, reset and whole-machine rules -/

/-- Every step keeps the invariant: memory stays in its canonical form (the model's own, log entry 2: each of the
65,536 bytes has one representation, R50), and bits 3..0 of F stay zero (R26, log entry 18). -/
def Obligations.StepKeepsTheInvariant : Prop :=
  ∀ s t : State, s.Inv → step s = .next t → t.Inv

/-- The state at power-on meets the invariant; memory's canonical form in it is the model's own (log entry 2). -/
def Obligations.ResetMeetsTheInvariant : Prop := State.reset.Inv

/-- The state at power-on (R360 to R365): every register 0, PC and SP 0, every byte of memory 0, Running, IME 0; so
the first step runs the NOP at 0x0000. -/
def Obligations.PowerOnIsAllZeroAndRunning : Prop :=
  (∀ r, State.reset.reg r = 0) ∧ State.reset.f = 0 ∧ State.reset.pc = 0 ∧ State.reset.sp = 0 ∧
  (∀ a, State.reset.read a = 0) ∧ State.reset.mode = .running ∧ State.reset.ime = false

/-- F changes only by the instructions whose flag lines write it and by POP AF, and each of those leaves bits 3..0 of
F at 0 (R26, R27). The escape row is left out: what it does is its extended instruction's
(EscapeRunsTheExtendedInstruction). -/
def Obligations.OnlyFlagInstructionsChangeF : Prop :=
  ∀ (i : Instr) (s t : State), exec i s = .next t → i ≠ .prefixCb →
    (writesF i = false → t.f = s.f) ∧ (writesF i = true → t.f &&& 0x0F = 0)

/-- IME is written by DI, EI and RETI alone, and the mode by HALT and STOP alone (R29, R30): so a step that changes
IME ran one of the three, and a step never leaves Halted or Stopped. -/
def Obligations.OnlyNamedInstructionsChangeControlState : Prop :=
  (∀ (i : Instr) (s t : State), exec i s = .next t →
    (i ≠ .di → i ≠ .ei → i ≠ .reti → t.ime = s.ime) ∧
    (i ≠ .halt → (∀ x, i ≠ .stop x) → t.mode = s.mode)) ∧
  ∀ s t : State, step s = .next t → s.mode ≠ .running → t = s

/-- The bus (R51, R52, R68): an access succeeds exactly on the integers 0 to 0xFFFF and otherwise fails with the
address, changing nothing; a byte written is read back, every other byte is as it was, and no register changes. -/
def Obligations.BusReadsBackWhatWasWritten : Prop :=
  (∀ (s : State) (a : Int), a < 0 ∨ 0xFFFF < a →
    s.busRead a = .error (.outOfRangeAddress a) ∧ ∀ v, s.busWrite a v = .error (.outOfRangeAddress a)) ∧
  (∀ (s : State) (a : Int), 0 ≤ a → a ≤ 0xFFFF → ∃ v, s.busRead a = .ok v) ∧
  ∀ (s : State) (a : Int) (v : Byte), s.mem.wf = true → 0 ≤ a → a ≤ 0xFFFF →
    ∃ t, s.busWrite a v = .ok t ∧ t.busRead a = .ok v ∧
      (∀ b : Int, b ≠ a → t.busRead b = s.busRead b) ∧ { t with mem := s.mem } = s

/-- The form memory is kept in (the model's own choice, log entry 2): a write keeps it, and two memories in it that
read alike at every address are the same data, so that equality of states is equality of what they hold. -/
def Obligations.MemoryThatReadsAlikeIsTheSameData : Prop :=
  (∀ (s : State) (a : Word) (v : Byte), s.mem.wf = true → (s.write a v).mem.wf = true) ∧
  ∀ s t : State, s.mem.wf = true → t.mem.wf = true → (∀ a : Word, s.read a = t.read a) → s.mem = t.mem

/-- The pair views (R22, R23): a pair reads as its high register then its low one, a pair written reads back and
changes no other register, and a write of AF keeps only bits 7..4 of F. -/
def Obligations.PairViewsAreTheirTwoRegisters : Prop :=
  ∀ s : State,
    (s.pair .bc).toNat = 256 * s.b.toNat + s.c.toNat ∧ (s.pair .de).toNat = 256 * s.d.toNat + s.e.toNat ∧
    (s.pair .hl).toNat = 256 * s.h.toNat + s.l.toNat ∧ (s.stackPair .af).toNat = 256 * s.a.toNat + s.f.toNat ∧
    (∀ rp v, (s.setPair rp v).pair rp = v ∧ KeepsRegs s (s.setPair rp v) (pairRegs rp) ∧
      (s.setPair rp v).f = s.f ∧ (rp ≠ .sp → (s.setPair rp v).sp = s.sp)) ∧
    (∀ v, (s.setStackPair .af v).a.toNat = v.toNat / 256 ∧
      (s.setStackPair .af v).f.toNat = v.toNat % 256 / 16 * 16 ∧ KeepsRegs s (s.setStackPair .af v) [.a])

/-- The interrupt-entry and wake seam actions (R330, R331). Entry, on an instance whose IME is 1, clears IME, leaves
any suspension, pushes PC and jumps to the source's vector, with cost 20, and saves nothing else; with IME 0 it is not
performed (R328; the answer `notPerformed` is the model's own, log entry 9). Waking sets the mode and nothing else. -/
def Obligations.InterruptEntryPushesPcAndWakes : Prop :=
  (∀ (m : MachineInstance) (irq : Interrupt), m.state.ime = true →
    ∃ t, m.doEnter irq = ({ m with state := t, cycles := m.cycles + 20 }, .cost 20) ∧
      t.ime = false ∧ t.mode = .running ∧ Pushed m.state t m.state.pc ∧ KeepsRegs m.state t [] ∧ t.f = m.state.f ∧
      KeepsMem m.state t [m.state.sp - 1, m.state.sp - 2] ∧
      t.pc = (match irq with
        | .vblank => 0x0040 | .lcdStat => 0x0048 | .timer => 0x0050 | .serial => 0x0058 | .joypad => 0x0060)) ∧
  (∀ (m : MachineInstance) (irq : Interrupt), m.state.ime = false → m.doEnter irq = (m, .notPerformed)) ∧
  (∀ s : State, s.wake = { s with mode := .running })

/-- An entry and the RETI that ends its handler (R290, R330, R332): RETI run where the entry left SP, with the two
pushed bytes as they were, returns PC and SP to what they were before the entry and sets IME; it restores no register
and no flag. -/
def Obligations.RetiUndoesInterruptEntry : Prop :=
  ∀ (s t : State) (vector : Word), s.mem.wf = true → t.sp = (s.enterInterrupt vector).sp →
    t.read (s.sp - 1) = (s.enterInterrupt vector).read (s.sp - 1) →
    t.read (s.sp - 2) = (s.enterInterrupt vector).read (s.sp - 2) →
      exec .reti t = .next { t with pc := s.pc, sp := s.sp, ime := true }

/-- A step of an instance. One that succeeds takes on the step's state, and its cost is reported and added to the
host's count (R31, R129). A failure is recorded against the instance and never cleared, changes no state, and the
instance takes no further step (R323, R339); a host access that fails changes nothing and is not recorded (R68). That
a failed instance answers `notPerformed` is the model's own word for it (log entry 1). -/
def Obligations.FailedInstanceTakesNoFurtherStep : Prop :=
  (∀ (m : MachineInstance) (t : State), m.failure = none → step m.state = .next t →
    ∃ c, stepCost m.state = some c ∧ m.doStep = ({ m with state := t, cycles := m.cycles + c }, .cost c)) ∧
  (∀ (m : MachineInstance) (f : Fault), m.failure = none → step m.state = .fault f →
    m.doStep = ({ m with failure := some f }, .failed f)) ∧
  (∀ (m : MachineInstance) (f : Fault), m.failure = some f → m.doStep = (m, .notPerformed)) ∧
  (∀ (m : MachineInstance) (f : Fault) (actions : List HostAction), m.failure = some f →
    (m.after actions).failure = some f) ∧
  (∀ (m : MachineInstance) (a : Int) (v : Byte), a < 0 ∨ 0xFFFF < a →
    m.doRead a = (m, .failed (.outOfRangeAddress a)) ∧ m.doWrite a v = (m, .failed (.outOfRangeAddress a)))

/-! ## System instructions -/

/-- NOP only advances PC (R300). Row: nop. -/
def Obligations.NopOnlyAdvancesPc : Prop :=
  Row .nop [0x00] ∧ ∀ s, exec .nop s = .next { s with pc := s.pc + 1 } ∧ cycleCost .nop s = some 4

/-- HALT and STOP set the mode and advance PC by one and two bytes; STOP's second byte is any byte and is ignored
(R301, R302). Rows: halt, stop. -/
def Obligations.HaltAndStopSetTheMode : Prop :=
  Row .halt [0x76] ∧ (∀ x, Row (.stop x) [0x10, x]) ∧
  ∀ s, exec .halt s = .next { s with mode := .halted, pc := s.pc + 1 } ∧ cycleCost .halt s = some 4 ∧
    ∀ x, exec (.stop x) s = .next { s with mode := .stopped, pc := s.pc + 2 } ∧ cycleCost (.stop x) s = some 4

/-- DI clears IME and EI sets it, both at the end of their own step, and nothing else changes but PC (R303, R304).
Rows: di, ei. -/
def Obligations.DiAndEiWriteImeAtOnce : Prop :=
  Row .di [0xF3] ∧ Row .ei [0xFB] ∧
  ∀ s, exec .di s = .next { s with ime := false, pc := s.pc + 1 } ∧ cycleCost .di s = some 4 ∧
    exec .ei s = .next { s with ime := true, pc := s.pc + 1 } ∧ cycleCost .ei s = some 4

/-- An illegal base opcode fails with its byte and its address, whatever the state and at any PC, and no operand byte
is fetched for it (R131, R305). Rows: illegalD3, illegalDB, illegalDD, illegalE3, illegalE4, illegalEB, illegalEC,
illegalED, illegalF4, illegalFC, illegalFD. -/
def Obligations.IllegalOpcodeFailsWithItsAddress : Prop :=
  (∀ op, op ∈ illegalOpcodes ↔ ∃ i : Instr, i.form = .illegal op) ∧
  ∀ (i : Instr) (op : Byte), i.form = .illegal op →
    Row i [op] ∧ (∀ s, exec i s = .fault (.unimplementedOpcode op s.pc) ∧ cycleCost i s = none) ∧
    ∀ s, s.mode = .running → s.read s.pc = op → step s = .fault (.unimplementedOpcode op s.pc)

/-- The escape byte runs the extended instruction its sub-opcode at PC + 1 names, as one two-byte instruction in one
step; at PC = 0xFFFF it fails (R92, R124, R306). Row: prefixCb. -/
def Obligations.EscapeRunsTheExtendedInstruction : Prop :=
  encode .prefixCb = [0xCB] ∧
  (∀ s : State, s.pc.toNat = 0xFFFF → exec .prefixCb s = .fault (.outOfRangeAddress 0x10000)) ∧
  (∀ s : State, s.pc.toNat ≠ 0xFFFF → ∃ i t, decode [0xCB, s.read (s.pc + 1)] = .ok (i, []) ∧
    exec .prefixCb s = exec i s ∧ exec i s = .next t ∧ t.pc = s.pc + 2 ∧
    (s.mode = .running → s.read s.pc = 0xCB → step s = exec i s ∧ stepCost s = cycleCost i s)) ∧
  (∀ s : State, s.mode = .running → s.read s.pc = 0xCB → step s = exec .prefixCb s)

/-! ## 8-bit loads -/

/-- LD between the operand locations, the source read before the destination is written; LD r,r changes nothing but PC
(R140 to R142). Rows: ldBB, ldBC, ldBD, ldBE, ldBH, ldBL, ldBAtHl, ldBA, ldCB, ldCC, ldCD, ldCE, ldCH, ldCL, ldCAtHl,
ldCA, ldDB, ldDC, ldDD, ldDE, ldDH, ldDL, ldDAtHl, ldDA, ldEB, ldEC, ldED, ldEE, ldEH, ldEL, ldEAtHl, ldEA, ldHB,
ldHC, ldHD, ldHE, ldHH, ldHL, ldHAtHl, ldHA, ldLB, ldLC, ldLD, ldLE, ldLH, ldLL, ldLAtHl, ldLA, ldAtHlB, ldAtHlC,
ldAtHlD, ldAtHlE, ldAtHlH, ldAtHlL, ldAtHlA, ldAB, ldAC, ldAD, ldAE, ldAH, ldAL, ldAAtHl, ldAA. -/
def Obligations.LoadCopiesTheSourceLocation : Prop :=
  ∀ (i : Instr) (dst src : Loc), i.form = .ld dst src →
    Row i [fieldsXYZ 1 dst.code src.code] ∧ (dst ≠ .atHl ∨ src ≠ .atHl) ∧
    ∀ s, ∃ t, exec i s = .next t ∧ cycleCost i s = some (byLoc dst (byLoc src 4 8) 8) ∧ Holds s t dst (s.loc src) ∧
      Frame s t (writtenRegs dst) (s.storedAt dst) ∧ t.f = s.f ∧ t.sp = s.sp ∧ t.pc = s.pc + 1

/-- LD of an 8-bit immediate into a register or the byte at HL (R143, R144). Rows: ldBD8, ldCD8, ldDD8, ldED8, ldHD8,
ldLD8, ldAtHlD8, ldAD8. -/
def Obligations.LoadImmediateStoresTheByte : Prop :=
  ∀ (i : Instr) (dst : Loc) (d8 : Byte), i.form = .ldImm dst d8 →
    Row i [fieldsXYZ 0 dst.code 6, d8] ∧
    ∀ s, ∃ t, exec i s = .next t ∧ cycleCost i s = some (byLoc dst 8 12) ∧ Holds s t dst d8 ∧
      Frame s t (writtenRegs dst) (s.storedAt dst) ∧ t.f = s.f ∧ t.sp = s.sp ∧ t.pc = s.pc + 2

/-- The one-byte loads of A through BC, DE, HL with post-increment or post-decrement, and 0xFF00 + C (R145, R146,
R153, R156, R158). Rows: ldAAtBc, ldAAtDe, ldAAtHlInc, ldAAtHlDec, ldAAtC. -/
def Obligations.AccumulatorLoadReadsItsAddress : Prop :=
  ∀ (i : Instr) (x : AccAddr), i.form = .ldLoad x →
    Row i [match x with | .bc => 0x0A | .de => 0x1A | .hlInc => 0x2A | .hlDec => 0x3A | .highC => 0xF2] ∧
    ∀ s, ∃ t, exec i s = .next t ∧ cycleCost i s = some 8 ∧ t.f = s.f ∧ t.sp = s.sp ∧ t.pc = s.pc + 1 ∧
      match x with
      | .bc => t.a = s.read s.bc ∧ Frame s t [.a] []
      | .de => t.a = s.read s.de ∧ Frame s t [.a] []
      | .hlInc => t.a = s.read s.hl ∧ t.hl = s.hl + 1 ∧ Frame s t [.a, .h, .l] []
      | .hlDec => t.a = s.read s.hl ∧ t.hl = s.hl - 1 ∧ Frame s t [.a, .h, .l] []
      | .highC => t.a = s.read (BitVec.ofNat 16 (0xFF00 + s.c.toNat)) ∧ Frame s t [.a] []

/-- The one-byte stores of A through BC, DE, HL with post-increment or post-decrement, and 0xFF00 + C: A is stored at
the address formed before HL moves (R147, R148, R154, R155, R157). Rows: ldAtBcA, ldAtDeA, ldAtHlIncA, ldAtHlDecA,
ldAtCA. -/
def Obligations.AccumulatorStoreWritesItsAddress : Prop :=
  ∀ (i : Instr) (x : AccAddr), i.form = .ldStore x →
    Row i [match x with | .bc => 0x02 | .de => 0x12 | .hlInc => 0x22 | .hlDec => 0x32 | .highC => 0xE2] ∧
    ∀ s, ∃ t, exec i s = .next t ∧ cycleCost i s = some 8 ∧ t.f = s.f ∧ t.sp = s.sp ∧ t.pc = s.pc + 1 ∧
      (∀ a, a = (match x with
        | .bc => s.bc
        | .de => s.de
        | .hlInc => s.hl
        | .hlDec => s.hl
        | .highC => BitVec.ofNat 16 (0xFF00 + s.c.toNat)) →
          KeepsMem s t [a] ∧ (s.mem.wf = true → t.read a = s.a)) ∧
      KeepsControl s t ∧
      match x with
      | .bc => KeepsRegs s t []
      | .de => KeepsRegs s t []
      | .hlInc => KeepsRegs s t [.h, .l] ∧ t.hl = s.hl + 1
      | .hlDec => KeepsRegs s t [.h, .l] ∧ t.hl = s.hl - 1
      | .highC => KeepsRegs s t []

/-- The loads and stores of A at an absolute address and at 0xFF00 + a8 (R149 to R152). Rows: ldAAtA16, ldAtA16A,
ldhAAtA8, ldhAtA8A. -/
def Obligations.AbsoluteAndHighPageAccessesMoveA : Prop :=
  (∀ a16, Row (.ldAAtA16 a16) [0xFA, loByte a16, hiByte a16] ∧
    ∀ s, exec (.ldAAtA16 a16) s = .next { s with a := s.read a16, pc := s.pc + 3 } ∧
      cycleCost (.ldAAtA16 a16) s = some 16) ∧
  (∀ a16, Row (.ldAtA16A a16) [0xEA, loByte a16, hiByte a16] ∧
    ∀ s, ∃ t, exec (.ldAtA16A a16) s = .next t ∧ cycleCost (.ldAtA16A a16) s = some 16 ∧
      (s.mem.wf = true → t.read a16 = s.a) ∧ Frame s t [] [a16] ∧ t.f = s.f ∧ t.sp = s.sp ∧ t.pc = s.pc + 3) ∧
  (∀ a8, Row (.ldhAAtA8 a8) [0xF0, a8] ∧
    ∀ s, exec (.ldhAAtA8 a8) s =
        .next { s with a := s.read (BitVec.ofNat 16 (0xFF00 + a8.toNat)), pc := s.pc + 2 } ∧
      cycleCost (.ldhAAtA8 a8) s = some 12) ∧
  (∀ a8, Row (.ldhAtA8A a8) [0xE0, a8] ∧
    ∀ s a, a = BitVec.ofNat 16 (0xFF00 + a8.toNat) → ∃ t, exec (.ldhAtA8A a8) s = .next t ∧
      cycleCost (.ldhAtA8A a8) s = some 12 ∧
      (s.mem.wf = true → t.read a = s.a) ∧ Frame s t [] [a] ∧ t.f = s.f ∧ t.sp = s.sp ∧ t.pc = s.pc + 2)

/-! ## 16-bit loads and the stack -/

/-- LD of a 16-bit immediate into a pair or SP, high byte to the high register; and LD SP,HL (R173, R175). Rows:
ldBcD16, ldDeD16, ldHlD16, ldSpD16, ldSpHl. -/
def Obligations.SixteenBitLoadsAreByteCorrect : Prop :=
  (∀ (i : Instr) (rp : Pair) (d16 : Word), i.form = .ldPair rp d16 →
    Row i [fieldsXPQZ 0 rp.code 0 1, loByte d16, hiByte d16] ∧
    ∀ s, ∃ t, exec i s = .next t ∧ cycleCost i s = some 12 ∧
      (match rp with
       | .bc => t.b = hiByte d16 ∧ t.c = loByte d16
       | .de => t.d = hiByte d16 ∧ t.e = loByte d16
       | .hl => t.h = hiByte d16 ∧ t.l = loByte d16
       | .sp => t.sp = d16) ∧
      Frame s t (pairRegs rp) [] ∧ t.f = s.f ∧ (rp ≠ .sp → t.sp = s.sp) ∧ t.pc = s.pc + 3) ∧
  Row .ldSpHl [0xF9] ∧
  ∀ s, exec .ldSpHl s = .next { s with sp := s.hl, pc := s.pc + 1 } ∧ cycleCost .ldSpHl s = some 8

/-- LD (a16),SP stores the low byte of SP at a16 and the high byte at a16 + 1; with a16 = 0xFFFF it fails before
either byte is written (R55, R174). Row: ldAtA16Sp. -/
def Obligations.StoreSpWritesTwoBytesOrFails : Prop :=
  ∀ a16, Row (.ldAtA16Sp a16) [0x08, loByte a16, hiByte a16] ∧
    ∀ s, (a16 = 0xFFFF → exec (.ldAtA16Sp a16) s = .fault (.outOfRangeAddress 0x10000)) ∧
      (a16 ≠ 0xFFFF → ∃ t, exec (.ldAtA16Sp a16) s = .next t ∧ cycleCost (.ldAtA16Sp a16) s = some 20 ∧
        (s.mem.wf = true → t.read a16 = loByte s.sp ∧ t.read (a16 + 1) = hiByte s.sp) ∧
        Frame s t [] [a16, a16 + 1] ∧ t.f = s.f ∧ t.sp = s.sp ∧ t.pc = s.pc + 3)

/-- SP plus a signed displacement, into HL or into SP, wrapping; Z and N are cleared, and H and C come from the
unsigned sum of the low byte of SP and the displacement byte (R172, R176, R233). Rows: ldHlSpE8, addSpE8. -/
def Obligations.SpPlusDisplacementSetsByteCarries : Prop :=
  ∀ (e8 : Byte) (s : State) (sum : Word) (fl : Byte),
    sum = BitVec.ofInt 16 (s.sp.toNat + e8.toInt) →
    fl = flagByte false false (decide (s.sp.toNat % 16 + e8.toNat % 16 ≥ 16))
      (decide (s.sp.toNat % 256 + e8.toNat ≥ 256)) →
      Row (.ldHlSpE8 e8) [0xF8, e8] ∧ Row (.addSpE8 e8) [0xE8, e8] ∧
      exec (.ldHlSpE8 e8) s = .next { s with h := hiByte sum, l := loByte sum, f := fl, pc := s.pc + 2 } ∧
      cycleCost (.ldHlSpE8 e8) s = some 12 ∧
      exec (.addSpE8 e8) s = .next { s with sp := sum, f := fl, pc := s.pc + 2 } ∧
      cycleCost (.addSpE8 e8) s = some 16

/-- PUSH stores the pair below SP, the high byte at SP - 1 and the low byte at SP - 2, addresses wrapping, and lowers
SP by two (R170, R177). Rows: pushBc, pushDe, pushHl, pushAf. -/
def Obligations.PushStoresThePairBelowSp : Prop :=
  ∀ (i : Instr) (rp2 : StackPair), i.form = .push rp2 →
    Row i [fieldsXPQZ 3 rp2.code 0 5] ∧
    ∀ s, ∃ t, exec i s = .next t ∧ cycleCost i s = some 16 ∧
      Pushed s t (match rp2 with
        | .bc => joinBytes s.b s.c
        | .de => joinBytes s.d s.e
        | .hl => joinBytes s.h s.l
        | .af => joinBytes s.a s.f) ∧
      Frame s t [] [s.sp - 1, s.sp - 2] ∧ t.f = s.f ∧ t.pc = s.pc + 1

/-- POP loads the pair from the two bytes at SP, the high byte from SP + 1, and raises SP by two; POP AF keeps only
bits 7..4 of the popped F (R171, R178, R179). Rows: popBc, popDe, popHl, popAf. -/
def Obligations.PopLoadsThePairAndRaisesSp : Prop :=
  ∀ (i : Instr) (rp2 : StackPair), i.form = .pop rp2 →
    Row i [fieldsXPQZ 3 rp2.code 0 1] ∧
    ∀ s hi lo, hi = s.read (s.sp + 1) → lo = s.read s.sp → cycleCost i s = some 12 ∧
      exec i s = .next
        (match rp2 with
         | .bc => { s with b := hi, c := lo, sp := s.sp + 2, pc := s.pc + 1 }
         | .de => { s with d := hi, e := lo, sp := s.sp + 2, pc := s.pc + 1 }
         | .hl => { s with h := hi, l := lo, sp := s.sp + 2, pc := s.pc + 1 }
         | .af => { s with a := hi, f := lo &&& 0xF0, sp := s.sp + 2, pc := s.pc + 1 })

/-! ## 8-bit arithmetic and logic -/

/-- ADD and ADC, on a register, the byte at HL or an immediate: the sum modulo 256 and its carries out of bits 3 and
7, with the carry flag added by ADC (R190, R196 to R201). Rows: addAB, addAC, addAD, addAE, addAH, addAL, addAAtHl,
addAA, adcAB, adcAC, adcAD, adcAE, adcAH, adcAL, adcAAtHl, adcAA, addAD8, adcAD8. -/
def Obligations.AddAndAdcSumWithCarries : Prop :=
  ∀ (i : Instr) (op : AluOp) (x : AluForm), i.form = x.form op → op = .add ∨ op = .adc →
    Row i (x.bytes (if op = .add then 0 else 1)) ∧
    ∀ s v cin, v = x.value s → cin = (decide (op = .adc) && s.cf) → ∃ t, exec i s = .next t ∧
      cycleCost i s = some x.cost ∧ t.a.toNat = (s.a.toNat + v.toNat + cin.toNat) % 256 ∧
      t.f = flagByte (decide (t.a = 0)) false (decide (s.a.toNat % 16 + v.toNat % 16 + cin.toNat ≥ 16))
        (decide (s.a.toNat + v.toNat + cin.toNat ≥ 256)) ∧
      Frame s t [.a] [] ∧ t.sp = s.sp ∧ t.pc = s.pc + BitVec.ofNat 16 x.length

/-- SUB and SBC, on a register, the byte at HL or an immediate: the difference modulo 256 and its borrows, with the
carry flag subtracted by SBC (R191, R202 to R207). Rows: subB, subC, subD, subE, subH, subL, subAtHl, subA, sbcAB,
sbcAC, sbcAD, sbcAE, sbcAH, sbcAL, sbcAAtHl, sbcAA, subD8, sbcAD8. -/
def Obligations.SubAndSbcDifferenceWithBorrows : Prop :=
  ∀ (i : Instr) (op : AluOp) (x : AluForm), i.form = x.form op → op = .sub ∨ op = .sbc →
    Row i (x.bytes (if op = .sub then 2 else 3)) ∧
    ∀ s v cin, v = x.value s → cin = (decide (op = .sbc) && s.cf) → ∃ t, exec i s = .next t ∧
      cycleCost i s = some x.cost ∧ t.a.toNat = (256 + s.a.toNat - v.toNat - cin.toNat) % 256 ∧
      t.f = flagByte (decide (t.a = 0)) true (decide (s.a.toNat % 16 < v.toNat % 16 + cin.toNat))
        (decide (s.a.toNat < v.toNat + cin.toNat)) ∧
      Frame s t [.a] [] ∧ t.sp = s.sp ∧ t.pc = s.pc + BitVec.ofNat 16 x.length

/-- AND, XOR and OR, on a register, the byte at HL or an immediate: bit by bit, Z from the result, H set by AND alone,
N and C cleared (R192 to R194, R208 to R216). Rows: andB, andC, andD, andE, andH, andL, andAtHl, andA, xorB, xorC,
xorD, xorE, xorH, xorL, xorAtHl, xorA, orB, orC, orD, orE, orH, orL, orAtHl, orA, andD8, xorD8, orD8. -/
def Obligations.LogicWorksBitByBit : Prop :=
  ∀ (i : Instr) (op : AluOp) (x : AluForm), i.form = x.form op → op = .and ∨ op = .xor ∨ op = .or →
    Row i (x.bytes (if op = .and then 4 else if op = .xor then 5 else 6)) ∧
    ∀ s v, v = x.value s → ∃ t, exec i s = .next t ∧ cycleCost i s = some x.cost ∧
      (∀ k, k < 8 → t.a.getLsbD k =
        (if op = .and then s.a.getLsbD k && v.getLsbD k
         else if op = .xor then s.a.getLsbD k != v.getLsbD k
         else s.a.getLsbD k || v.getLsbD k)) ∧
      t.f = flagByte (decide (t.a = 0)) false (decide (op = .and)) false ∧
      Frame s t [.a] [] ∧ t.sp = s.sp ∧ t.pc = s.pc + BitVec.ofNat 16 x.length

/-- CP sets the flags of the subtraction and writes nothing else: Z when A equals the operand, C when A is below it
(R191, R217 to R219). Rows: cpB, cpC, cpD, cpE, cpH, cpL, cpAtHl, cpA, cpD8. -/
def Obligations.CompareSetsFlagsOnly : Prop :=
  ∀ (i : Instr) (x : AluForm), i.form = x.form .cp →
    Row i (x.bytes 7) ∧
    ∀ s v, v = x.value s → cycleCost i s = some x.cost ∧
      exec i s = .next { s with
        f := flagByte (decide (s.a = v)) true (decide (s.a.toNat % 16 < v.toNat % 16)) (decide (s.a.toNat < v.toNat))
        pc := s.pc + BitVec.ofNat 16 x.length }

/-- INC and DEC on a register or the byte at HL: one more or one less modulo 256, H from the low nibble, C kept (R220
to R223). Rows: incB, decB, incC, decC, incD, decD, incE, decE, incH, decH, incL, decL, incAtHl, decAtHl, incA, decA.
-/
def Obligations.IncrementAndDecrementKeepCarry : Prop :=
  (∀ (i : Instr) (dst : Loc), i.form = .inc dst →
    Row i [fieldsXYZ 0 dst.code 4] ∧
    ∀ s old new, old = s.loc dst → new = BitVec.ofNat 8 (old.toNat + 1) → ∃ t, exec i s = .next t ∧
      cycleCost i s = some (byLoc dst 4 12) ∧ Holds s t dst new ∧
      t.f = flagByte (decide (old = 0xFF)) false (decide (old.toNat % 16 = 15)) s.cf ∧
      Frame s t (writtenRegs dst) (s.storedAt dst) ∧ t.sp = s.sp ∧ t.pc = s.pc + 1) ∧
  (∀ (i : Instr) (dst : Loc), i.form = .dec dst →
    Row i [fieldsXYZ 0 dst.code 5] ∧
    ∀ s old new, old = s.loc dst → new = BitVec.ofNat 8 (old.toNat + 255) → ∃ t, exec i s = .next t ∧
      cycleCost i s = some (byLoc dst 4 12) ∧ Holds s t dst new ∧
      t.f = flagByte (decide (old = 0x01)) true (decide (old.toNat % 16 = 0)) s.cf ∧
      Frame s t (writtenRegs dst) (s.storedAt dst) ∧ t.sp = s.sp ∧ t.pc = s.pc + 1)

/-- DAA as a function of A, N, H and C alone (R224): after an addition 0x60 is added when C is set or A is over 0x99,
and 0x06 when H is set or the low nibble is over 9; after a subtraction 0x60 and 0x06 are subtracted by C and H. Row:
daa. -/
def Obligations.DecimalAdjustCorrectsByFlags : Prop :=
  Row .daa [0x27] ∧
  ∀ (s : State) (high low res : Nat),
    high = (if s.cf = true ∨ (s.nf = false ∧ s.a.toNat > 0x99) then 0x60 else 0) →
    low = (if s.hf = true ∨ (s.nf = false ∧ s.a.toNat % 16 > 9) then 0x06 else 0) →
    res = (if s.nf = true then 512 + s.a.toNat - high - low else s.a.toNat + high + low) % 256 →
      cycleCost .daa s = some 4 ∧
      exec .daa s = .next { s with
        a := BitVec.ofNat 8 res
        f := flagByte (decide (res = 0)) s.nf false (decide (high = 0x60))
        pc := s.pc + 1 }

/-- What DAA is for: ADD of two packed decimal numbers followed by DAA leaves the packed decimal sum, its hundred in
C; and SUB followed by DAA the decimal difference modulo 100, its borrow in C (R190, R191, R224). Rows: addAB, subB,
daa. -/
def Obligations.DecimalAdjustMakesDecimalArithmetic : Prop :=
  ∀ (s : State) (x y : Nat), x < 100 → y < 100 →
    s.a = BitVec.ofNat 8 (x / 10 * 16 + x % 10) → s.b = BitVec.ofNat 8 (y / 10 * 16 + y % 10) →
      (∃ t u, exec .addAB s = .next t ∧ exec .daa t = .next u ∧
        u.a = BitVec.ofNat 8 ((x + y) % 100 / 10 * 16 + (x + y) % 10) ∧ u.cf = decide (x + y ≥ 100)) ∧
      (∃ t u, exec .subB s = .next t ∧ exec .daa t = .next u ∧
        u.a = BitVec.ofNat 8 ((100 + x - y) % 100 / 10 * 16 + (100 + x - y) % 10) ∧ u.cf = decide (x < y))

/-- CPL complements A, sets N and H and keeps Z and C; SCF and CCF set and toggle C, clear N and H and keep Z (R225 to
R227). Rows: cpl, scf, ccf. -/
def Obligations.ComplementAndCarryInstructions : Prop :=
  Row .cpl [0x2F] ∧ Row .scf [0x37] ∧ Row .ccf [0x3F] ∧
  ∀ s,
    (exec .cpl s = .next { s with
      a := BitVec.ofNat 8 (255 - s.a.toNat), f := flagByte s.zf true true s.cf, pc := s.pc + 1 } ∧
      cycleCost .cpl s = some 4) ∧
    (exec .scf s = .next { s with f := flagByte s.zf false false true, pc := s.pc + 1 } ∧
      cycleCost .scf s = some 4) ∧
    (exec .ccf s = .next { s with f := flagByte s.zf false false (!s.cf), pc := s.pc + 1 } ∧
      cycleCost .ccf s = some 4)

/-! ## 16-bit arithmetic -/

/-- INC and DEC of a pair or SP wrap modulo 2^16 and write no flag (R230, R231). Rows: incBc, decBc, incDe, decDe,
incHl, decHl, incSp, decSp. -/
def Obligations.PairIncrementAndDecrementWrap : Prop :=
  ∀ (i : Instr) (rp : Pair) (up : Bool), i.form = (if up then .incPair rp else .decPair rp) →
    Row i [fieldsXPQZ 0 rp.code (if up then 0 else 1) 3] ∧
    ∀ s, ∃ t, exec i s = .next t ∧ cycleCost i s = some 8 ∧
      (t.pair rp).toNat = (if up then (s.pair rp).toNat + 1 else (s.pair rp).toNat + 0xFFFF) % 0x10000 ∧
      Frame s t (pairRegs rp) [] ∧ t.f = s.f ∧ (rp ≠ .sp → t.sp = s.sp) ∧ t.pc = s.pc + 1

/-- ADD HL,rp: the sum modulo 2^16, H and C the carries out of bits 11 and 15, N cleared, Z kept (R232). Rows:
addHlBc, addHlDe, addHlHl, addHlSp. -/
def Obligations.AddToHlCarriesFromBits11And15 : Prop :=
  ∀ (i : Instr) (rp : Pair), i.form = .addHl rp →
    Row i [fieldsXPQZ 0 rp.code 1 1] ∧
    ∀ s v, v = (s.pair rp).toNat → ∃ t, exec i s = .next t ∧ cycleCost i s = some 8 ∧
      t.hl.toNat = (s.hl.toNat + v) % 0x10000 ∧
      t.f = flagByte s.zf false (decide (s.hl.toNat % 0x1000 + v % 0x1000 ≥ 0x1000))
        (decide (s.hl.toNat + v ≥ 0x10000)) ∧
      Frame s t [.h, .l] [] ∧ t.sp = s.sp ∧ t.pc = s.pc + 1

/-! ## Rotates, shifts and bits -/

/-- The accumulator rotates: circular or through the carry; C is the bit shifted out, and Z, N, H are cleared whatever
the result (R240 to R243, R248 to R251). Rows: rlca, rrca, rla, rra. -/
def Obligations.AccumulatorRotatesClearZ : Prop :=
  Row .rlca [0x07] ∧ Row .rrca [0x0F] ∧ Row .rla [0x17] ∧ Row .rra [0x1F] ∧
  ∀ (s : State) (a : Nat), a = s.a.toNat →
    (exec .rlca s = .next { s with
      a := BitVec.ofNat 8 (2 * a + a / 128), f := flagByte false false false (decide (a ≥ 128)), pc := s.pc + 1 } ∧
      cycleCost .rlca s = some 4) ∧
    (exec .rrca s = .next { s with
      a := BitVec.ofNat 8 (a / 2 + a % 2 * 128), f := flagByte false false false (decide (a % 2 = 1)), pc := s.pc + 1 } ∧
      cycleCost .rrca s = some 4) ∧
    (exec .rla s = .next { s with
      a := BitVec.ofNat 8 (2 * a + s.cf.toNat), f := flagByte false false false (decide (a ≥ 128)), pc := s.pc + 1 } ∧
      cycleCost .rla s = some 4) ∧
    (exec .rra s = .next { s with
      a := BitVec.ofNat 8 (a / 2 + s.cf.toNat * 128), f := flagByte false false false (decide (a % 2 = 1))
      pc := s.pc + 1 } ∧
      cycleCost .rra s = some 4)

/-- The four rotates of the extended space on a register or the byte at HL, read once and written at the same place; Z
follows the result, and C is the bit shifted out (R252 to R259). Rows: rlcB, rlcC, rlcD, rlcE, rlcH, rlcL, rlcAtHl,
rlcA, rrcB, rrcC, rrcD, rrcE, rrcH, rrcL, rrcAtHl, rrcA, rlB, rlC, rlD, rlE, rlH, rlL, rlAtHl, rlA, rrB, rrC, rrD,
rrE, rrH, rrL, rrAtHl, rrA. -/
def Obligations.ExtendedRotatesSetZ : Prop :=
  ∀ (i : Instr) (op : RotOp) (dst : Loc), i.form = .rot op dst →
    op = .rlc ∨ op = .rrc ∨ op = .rl ∨ op = .rr →
    Row i [0xCB, fieldsXYZ 0 (match op with | .rlc => 0 | .rrc => 1 | .rl => 2 | _ => 3) dst.code] ∧
    ∀ s v new, v = (s.loc dst).toNat →
      new = BitVec.ofNat 8 (match op with
        | .rlc => 2 * v + v / 128
        | .rrc => v / 2 + v % 2 * 128
        | .rl => 2 * v + s.cf.toNat
        | _ => v / 2 + s.cf.toNat * 128) →
      ∃ t, exec i s = .next t ∧ cycleCost i s = some (byLoc dst 8 16) ∧ Holds s t dst new ∧
        t.f = flagByte (decide (new = 0)) false false
          (if op = .rlc ∨ op = .rl then decide (v ≥ 128) else decide (v % 2 = 1)) ∧
        Frame s t (writtenRegs dst) (s.storedAt dst) ∧ t.sp = s.sp ∧ t.pc = s.pc + 2

/-- SLA, SRA, SWAP and SRL on a register or the byte at HL: SRA keeps bit 7 and SRL clears it, SWAP exchanges the
nibbles and clears C; Z follows the result (R244 to R247, R260 to R267). Rows: slaB, slaC, slaD, slaE, slaH, slaL,
slaAtHl, slaA, sraB, sraC, sraD, sraE, sraH, sraL, sraAtHl, sraA, swapB, swapC, swapD, swapE, swapH, swapL, swapAtHl,
swapA, srlB, srlC, srlD, srlE, srlH, srlL, srlAtHl, srlA. -/
def Obligations.ShiftsAndSwapSetZ : Prop :=
  ∀ (i : Instr) (op : RotOp) (dst : Loc), i.form = .rot op dst →
    op = .sla ∨ op = .sra ∨ op = .swap ∨ op = .srl →
    Row i [0xCB, fieldsXYZ 0 (match op with | .sla => 4 | .sra => 5 | .swap => 6 | _ => 7) dst.code] ∧
    ∀ s v new, v = (s.loc dst).toNat →
      new = BitVec.ofNat 8 (match op with
        | .sla => 2 * v
        | .sra => v / 2 + v / 128 * 128
        | .swap => v % 16 * 16 + v / 16
        | _ => v / 2) →
      ∃ t, exec i s = .next t ∧ cycleCost i s = some (byLoc dst 8 16) ∧ Holds s t dst new ∧
        t.f = flagByte (decide (new = 0)) false false
          (match op with
           | .sla => decide (v ≥ 128)
           | .swap => false
           | _ => decide (v % 2 = 1)) ∧
        Frame s t (writtenRegs dst) (s.storedAt dst) ∧ t.sp = s.sp ∧ t.pc = s.pc + 2

/-- BIT sets Z to the complement of the tested bit, clears N, sets H, keeps C, and writes nothing else, neither the
register nor the byte (R270, R271). Rows: bit0B, bit0C, bit0D, bit0E, bit0H, bit0L, bit0AtHl, bit0A, bit1B, bit1C,
bit1D, bit1E, bit1H, bit1L, bit1AtHl, bit1A, bit2B, bit2C, bit2D, bit2E, bit2H, bit2L, bit2AtHl, bit2A, bit3B, bit3C,
bit3D, bit3E, bit3H, bit3L, bit3AtHl, bit3A, bit4B, bit4C, bit4D, bit4E, bit4H, bit4L, bit4AtHl, bit4A, bit5B, bit5C,
bit5D, bit5E, bit5H, bit5L, bit5AtHl, bit5A, bit6B, bit6C, bit6D, bit6E, bit6H, bit6L, bit6AtHl, bit6A, bit7B, bit7C,
bit7D, bit7E, bit7H, bit7L, bit7AtHl, bit7A. -/
def Obligations.BitTestWritesFlagsOnly : Prop :=
  ∀ (i : Instr) (b : BitVec 3) (src : Loc), i.form = .bit b src →
    Row i [0xCB, fieldsXYZ 1 b src.code] ∧
    ∀ s, exec i s = .next { s with
        f := flagByte (decide ((s.loc src).toNat / 2 ^ b.toNat % 2 = 0)) false true s.cf
        pc := s.pc + 2 } ∧
      cycleCost i s = some (byLoc src 8 12)

/-- RES and SET force one bit of a register or of the byte at HL, keep its other bits, and write no flag (R272 to
R275). Rows: res0B, res0C, res0D, res0E, res0H, res0L, res0AtHl, res0A, res1B, res1C, res1D, res1E, res1H, res1L,
res1AtHl, res1A, res2B, res2C, res2D, res2E, res2H, res2L, res2AtHl, res2A, res3B, res3C, res3D, res3E, res3H, res3L,
res3AtHl, res3A, res4B, res4C, res4D, res4E, res4H, res4L, res4AtHl, res4A, res5B, res5C, res5D, res5E, res5H, res5L,
res5AtHl, res5A, res6B, res6C, res6D, res6E, res6H, res6L, res6AtHl, res6A, res7B, res7C, res7D, res7E, res7H, res7L,
res7AtHl, res7A, set0B, set0C, set0D, set0E, set0H, set0L, set0AtHl, set0A, set1B, set1C, set1D, set1E, set1H, set1L,
set1AtHl, set1A, set2B, set2C, set2D, set2E, set2H, set2L, set2AtHl, set2A, set3B, set3C, set3D, set3E, set3H, set3L,
set3AtHl, set3A, set4B, set4C, set4D, set4E, set4H, set4L, set4AtHl, set4A, set5B, set5C, set5D, set5E, set5H, set5L,
set5AtHl, set5A, set6B, set6C, set6D, set6E, set6H, set6L, set6AtHl, set6A, set7B, set7C, set7D, set7E, set7H, set7L,
set7AtHl, set7A. -/
def Obligations.ResetAndSetForceOneBit : Prop :=
  ∀ (i : Instr) (b : BitVec 3) (dst : Loc) (one : Bool), i.form = (if one then .set b dst else .res b dst) →
    Row i [0xCB, fieldsXYZ (if one then 3 else 2) b dst.code] ∧
    ∀ s, ∃ new, ∃ t, (∀ k, k < 8 → new.getLsbD k = if k = b.toNat then one else (s.loc dst).getLsbD k) ∧
      exec i s = .next t ∧ cycleCost i s = some (byLoc dst 8 16) ∧ Holds s t dst new ∧
      Frame s t (writtenRegs dst) (s.storedAt dst) ∧ t.f = s.f ∧ t.sp = s.sp ∧ t.pc = s.pc + 2

/-! ## Control transfer -/

/-- JP: to the absolute address, to it only when the condition of F holds, or to HL; PC is exactly the target, and an
untaken jump falls through by three bytes (R280 to R283). Rows: jpA16, jpNzA16, jpZA16, jpNcA16, jpCA16, jpHl. -/
def Obligations.JumpsGoExactlyToTheTarget : Prop :=
  (∀ a16, Row (.jpA16 a16) [0xC3, loByte a16, hiByte a16] ∧
    ∀ s, exec (.jpA16 a16) s = .next { s with pc := a16 } ∧ cycleCost (.jpA16 a16) s = some 16) ∧
  (∀ (i : Instr) (cc : Cond) (a16 : Word), i.form = .jpIf cc a16 →
    Row i [fieldsXYZ 3 (0#1 ++ cc.code) 2, loByte a16, hiByte a16] ∧
    ∀ s, exec i s = .next { s with pc := if s.holdsCond cc then a16 else s.pc + 3 } ∧
      cycleCost i s = some (if s.holdsCond cc then 16 else 12)) ∧
  Row .jpHl [0xE9] ∧ ∀ s, exec .jpHl s = .next { s with pc := s.hl } ∧ cycleCost .jpHl s = some 4

/-- JR: to the address after the instruction plus the signed displacement, wrapping, always or when the condition
holds (R280, R284, R285). Rows: jrE8, jrNzE8, jrZE8, jrNcE8, jrCE8. -/
def Obligations.RelativeJumpsAddTheDisplacement : Prop :=
  ∀ (e8 : Byte) (s : State) (target : Word), target = BitVec.ofInt 16 (s.pc.toNat + 2 + e8.toInt) →
    (Row (.jrE8 e8) [0x18, e8] ∧ exec (.jrE8 e8) s = .next { s with pc := target } ∧
      cycleCost (.jrE8 e8) s = some 12) ∧
    ∀ (i : Instr) (cc : Cond), i.form = .jrIf cc e8 →
      Row i [fieldsXYZ 0 (1#1 ++ cc.code) 0, e8] ∧
      exec i s = .next { s with pc := if s.holdsCond cc then target else s.pc + 2 } ∧
      cycleCost i s = some (if s.holdsCond cc then 12 else 8)

/-- CALL, always or when the condition holds, pushes the address after it and jumps; an untaken call changes only PC
(R286, R287). Rows: callA16, callNzA16, callZA16, callNcA16, callCA16. -/
def Obligations.CallPushesTheReturnAddress : Prop :=
  (∀ a16, Row (.callA16 a16) [0xCD, loByte a16, hiByte a16] ∧
    ∀ s, ∃ t, exec (.callA16 a16) s = .next t ∧ cycleCost (.callA16 a16) s = some 24 ∧ Pushed s t (s.pc + 3) ∧
      Frame s t [] [s.sp - 1, s.sp - 2] ∧ t.f = s.f ∧ t.pc = a16) ∧
  ∀ (i : Instr) (cc : Cond) (a16 : Word), i.form = .callIf cc a16 →
    Row i [fieldsXYZ 3 (0#1 ++ cc.code) 4, loByte a16, hiByte a16] ∧
    ∀ s, (s.holdsCond cc = false →
        exec i s = .next { s with pc := s.pc + 3 } ∧ cycleCost i s = some 12) ∧
      (s.holdsCond cc = true → ∃ t, exec i s = .next t ∧ cycleCost i s = some 24 ∧ Pushed s t (s.pc + 3) ∧
        Frame s t [] [s.sp - 1, s.sp - 2] ∧ t.f = s.f ∧ t.pc = a16)

/-- RET, RET cc and RETI pop PC, wrapping; RETI also sets IME and restores nothing else; an untaken return changes
only PC (R288 to R290). Rows: ret, reti, retNz, retZ, retNc, retC. -/
def Obligations.ReturnsPopPc : Prop :=
  Row .ret [0xC9] ∧ Row .reti [0xD9] ∧
  (∀ (s : State) (top : Word), top = joinBytes (s.read (s.sp + 1)) (s.read s.sp) →
    (exec .ret s = .next { s with pc := top, sp := s.sp + 2 } ∧ cycleCost .ret s = some 16) ∧
    (exec .reti s = .next { s with pc := top, sp := s.sp + 2, ime := true } ∧ cycleCost .reti s = some 16)) ∧
  ∀ (i : Instr) (cc : Cond), i.form = .retIf cc →
    Row i [fieldsXYZ 3 (0#1 ++ cc.code) 0] ∧
    ∀ s, (s.holdsCond cc = false →
        exec i s = .next { s with pc := s.pc + 1 } ∧ cycleCost i s = some 8) ∧
      (s.holdsCond cc = true →
        exec i s = .next { s with pc := joinBytes (s.read (s.sp + 1)) (s.read s.sp), sp := s.sp + 2 } ∧
        cycleCost i s = some 20)

/-- RST pushes the address after it and jumps to eight times its field y (R291). Rows: rst00, rst08, rst10, rst18,
rst20, rst28, rst30, rst38. -/
def Obligations.RestartCallsPageZero : Prop :=
  ∀ (i : Instr) (y : BitVec 3), i.form = .rst y →
    Row i [fieldsXYZ 3 y 7] ∧
    ∀ s, ∃ t, exec i s = .next t ∧ cycleCost i s = some 16 ∧ Pushed s t (s.pc + 1) ∧
      Frame s t [] [s.sp - 1, s.sp - 2] ∧ t.f = s.f ∧ t.pc = BitVec.ofNat 16 (8 * y.toNat)

/-! ## The end of a run -/

/-- The executable end of a run and its definition agree (R340, R368): `endOfRun` answers the instance that `EndsRun`
says, the one right after the first step of the history that succeeds with the mode Halted and that no performed seam
action follows; and it answers none exactly where there is no such step. That an earlier HALT which a wake or an entry
follows is no end, and that an entry with IME = 0 is no performed action, is the reading of log entry 25. -/
def Obligations.EndOfRunIsTheFirstHaltLeftAlone : Prop :=
  (∀ (m : MachineInstance) (history : List HostAction) (n : MachineInstance),
    m.endOfRun history = some n ↔ EndsRun m history n) ∧
  ∀ (m : MachineInstance) (history : List HostAction),
    m.endOfRun history = none ↔
      ∀ before rest n, history = before ++ .step :: rest → ¬ HaltLeftAlone m before rest n

/-- What the end of a run is, for an instance that does not begin Halted (R339, R340, R368): it is the step of a HALT
from Running with no failure recorded, and the state at the end of the history is the HALT's with the host's writes
since then made in their order: without a write it is the HALT's own, and a byte that no write names is as it was. A
HALT that no performed seam action follows does end the run; an instance with a failure recorded, a history that a
wake or a performed entry ends, and one that leaves the core Running or Stopped have no end. -/
def Obligations.RunEndsAtAHaltAndStaysThere : Prop :=
  (∀ (m n : MachineInstance) (history : List HostAction), m.state.mode ≠ .halted → EndsRun m history n →
    ∃ before rest, history = before ++ .step :: rest ∧ (m.after before).failure = none ∧
      StepHalts (m.after before).state n.state ∧ fetch (m.after before).state = .ok .halt ∧
      n.state = { (m.after before).state with mode := .halted, pc := (m.after before).state.pc + 1 } ∧
      (m.after history).failure = none ∧
      (m.after history).state = n.state.hostWrites rest ∧
      ((∀ a v, HostAction.write a v ∉ rest) → (m.after history).state = n.state) ∧
      { (m.after history).state with mem := n.state.mem } = n.state ∧
      ∀ a : Word, (∀ v, HostAction.write a.toNat v ∉ rest) → (m.after history).state.read a = n.state.read a) ∧
  (∀ (m : MachineInstance) (before rest : List HostAction), (m.after before).failure = none →
    (m.after before).state.mode = .running → fetch (m.after before).state = .ok .halt →
    (m.after (before ++ [.step])).leftAlone rest = true → ∃ n, EndsRun m (before ++ .step :: rest) n) ∧
  (∀ (m n : MachineInstance) (f : Fault) (history : List HostAction), m.failure = some f → ¬ EndsRun m history n) ∧
  (∀ (m n : MachineInstance) (history : List HostAction), ¬ EndsRun m (history ++ [.wake]) n) ∧
  (∀ (m n : MachineInstance) (irq : Interrupt) (history : List HostAction), (m.after history).state.ime = true →
    ¬ EndsRun m (history ++ [.enter irq]) n) ∧
  ∀ (m n : MachineInstance) (history : List HostAction), (m.after history).state.mode ≠ .halted →
    ¬ EndsRun m history n
end

