-- ==== Sys2Proof/Laws/State.lean ====
section
/-! SUPPORT. One lemma per field per named update of State (Machine/Ops.lean, Machine/Operands.lean), and the same for the
derived observations (a register, a pair, the flags, a byte of memory), so that no later proof unfolds a record update. -/

namespace Sys2Proof.Machine

variable (s : State)

/-! ## setReg -/

@[simp] theorem State.setReg_f (r : Reg8) (v : Byte) : (s.setReg r v).f = s.f := by cases r <;> rfl
@[simp] theorem State.setReg_sp (r : Reg8) (v : Byte) : (s.setReg r v).sp = s.sp := by cases r <;> rfl
@[simp] theorem State.setReg_pc (r : Reg8) (v : Byte) : (s.setReg r v).pc = s.pc := by cases r <;> rfl
@[simp] theorem State.setReg_mode (r : Reg8) (v : Byte) : (s.setReg r v).mode = s.mode := by cases r <;> rfl
@[simp] theorem State.setReg_ime (r : Reg8) (v : Byte) : (s.setReg r v).ime = s.ime := by cases r <;> rfl
@[simp] theorem State.setReg_mem (r : Reg8) (v : Byte) : (s.setReg r v).mem = s.mem := by cases r <;> rfl
@[simp] theorem State.setReg_flags (r : Reg8) (v : Byte) : (s.setReg r v).flags = s.flags := by simp only [State.flags, State.setReg_f]
@[simp] theorem State.setReg_read (r : Reg8) (v : Byte) (q : Word) : (s.setReg r v).read q = s.read q := by simp only [State.read, State.setReg_mem]
@[simp] theorem State.setReg_nextPc (r : Reg8) (v : Byte) (k : Nat) : (s.setReg r v).nextPc k = s.nextPc k := by simp only [State.nextPc, State.setReg_pc]

/-! ## setHl -/

@[simp] theorem State.setHl_a (v : Word) : (s.setHl v).a = s.a := rfl
@[simp] theorem State.setHl_f (v : Word) : (s.setHl v).f = s.f := rfl
@[simp] theorem State.setHl_b (v : Word) : (s.setHl v).b = s.b := rfl
@[simp] theorem State.setHl_c (v : Word) : (s.setHl v).c = s.c := rfl
@[simp] theorem State.setHl_d (v : Word) : (s.setHl v).d = s.d := rfl
@[simp] theorem State.setHl_e (v : Word) : (s.setHl v).e = s.e := rfl
@[simp] theorem State.setHl_h (v : Word) : (s.setHl v).h = hiByte v := rfl
@[simp] theorem State.setHl_l (v : Word) : (s.setHl v).l = loByte v := rfl
@[simp] theorem State.setHl_sp (v : Word) : (s.setHl v).sp = s.sp := rfl
@[simp] theorem State.setHl_pc (v : Word) : (s.setHl v).pc = s.pc := rfl
@[simp] theorem State.setHl_mode (v : Word) : (s.setHl v).mode = s.mode := rfl
@[simp] theorem State.setHl_ime (v : Word) : (s.setHl v).ime = s.ime := rfl
@[simp] theorem State.setHl_mem (v : Word) : (s.setHl v).mem = s.mem := rfl
@[simp] theorem State.setHl_flags (v : Word) : (s.setHl v).flags = s.flags := by simp only [State.flags, State.setHl_f]
@[simp] theorem State.setHl_read (v : Word) (q : Word) : (s.setHl v).read q = s.read q := by simp only [State.read, State.setHl_mem]
@[simp] theorem State.setHl_bc (v : Word) : (s.setHl v).bc = s.bc := by simp only [State.bc, State.setHl_b, State.setHl_c]
@[simp] theorem State.setHl_de (v : Word) : (s.setHl v).de = s.de := by simp only [State.de, State.setHl_d, State.setHl_e]
@[simp] theorem State.setHl_nextPc (v : Word) (k : Nat) : (s.setHl v).nextPc k = s.nextPc k := by simp only [State.nextPc, State.setHl_pc]

/-! ## setPair -/

@[simp] theorem State.setPair_a (rp : Pair) (v : Word) : (s.setPair rp v).a = s.a := by cases rp <;> rfl
@[simp] theorem State.setPair_f (rp : Pair) (v : Word) : (s.setPair rp v).f = s.f := by cases rp <;> rfl
@[simp] theorem State.setPair_pc (rp : Pair) (v : Word) : (s.setPair rp v).pc = s.pc := by cases rp <;> rfl
@[simp] theorem State.setPair_mode (rp : Pair) (v : Word) : (s.setPair rp v).mode = s.mode := by cases rp <;> rfl
@[simp] theorem State.setPair_ime (rp : Pair) (v : Word) : (s.setPair rp v).ime = s.ime := by cases rp <;> rfl
@[simp] theorem State.setPair_mem (rp : Pair) (v : Word) : (s.setPair rp v).mem = s.mem := by cases rp <;> rfl
@[simp] theorem State.setPair_flags (rp : Pair) (v : Word) : (s.setPair rp v).flags = s.flags := by simp only [State.flags, State.setPair_f]
@[simp] theorem State.setPair_read (rp : Pair) (v : Word) (q : Word) : (s.setPair rp v).read q = s.read q := by simp only [State.read, State.setPair_mem]
@[simp] theorem State.setPair_nextPc (rp : Pair) (v : Word) (k : Nat) : (s.setPair rp v).nextPc k = s.nextPc k := by simp only [State.nextPc, State.setPair_pc]

/-! ## setStackPair -/

@[simp] theorem State.setStackPair_sp (rp2 : StackPair) (v : Word) : (s.setStackPair rp2 v).sp = s.sp := by cases rp2 <;> rfl
@[simp] theorem State.setStackPair_pc (rp2 : StackPair) (v : Word) : (s.setStackPair rp2 v).pc = s.pc := by cases rp2 <;> rfl
@[simp] theorem State.setStackPair_mode (rp2 : StackPair) (v : Word) : (s.setStackPair rp2 v).mode = s.mode := by cases rp2 <;> rfl
@[simp] theorem State.setStackPair_ime (rp2 : StackPair) (v : Word) : (s.setStackPair rp2 v).ime = s.ime := by cases rp2 <;> rfl
@[simp] theorem State.setStackPair_mem (rp2 : StackPair) (v : Word) : (s.setStackPair rp2 v).mem = s.mem := by cases rp2 <;> rfl
@[simp] theorem State.setStackPair_read (rp2 : StackPair) (v : Word) (q : Word) : (s.setStackPair rp2 v).read q = s.read q := by simp only [State.read, State.setStackPair_mem]
@[simp] theorem State.setStackPair_nextPc (rp2 : StackPair) (v : Word) (k : Nat) : (s.setStackPair rp2 v).nextPc k = s.nextPc k := by simp only [State.nextPc, State.setStackPair_pc]

/-! ## setF -/

@[simp] theorem State.setF_a (v : Byte) : (s.setF v).a = s.a := rfl
@[simp] theorem State.setF_f (v : Byte) : (s.setF v).f = maskF v := rfl
@[simp] theorem State.setF_b (v : Byte) : (s.setF v).b = s.b := rfl
@[simp] theorem State.setF_c (v : Byte) : (s.setF v).c = s.c := rfl
@[simp] theorem State.setF_d (v : Byte) : (s.setF v).d = s.d := rfl
@[simp] theorem State.setF_e (v : Byte) : (s.setF v).e = s.e := rfl
@[simp] theorem State.setF_h (v : Byte) : (s.setF v).h = s.h := rfl
@[simp] theorem State.setF_l (v : Byte) : (s.setF v).l = s.l := rfl
@[simp] theorem State.setF_sp (v : Byte) : (s.setF v).sp = s.sp := rfl
@[simp] theorem State.setF_pc (v : Byte) : (s.setF v).pc = s.pc := rfl
@[simp] theorem State.setF_mode (v : Byte) : (s.setF v).mode = s.mode := rfl
@[simp] theorem State.setF_ime (v : Byte) : (s.setF v).ime = s.ime := rfl
@[simp] theorem State.setF_mem (v : Byte) : (s.setF v).mem = s.mem := rfl
@[simp] theorem State.setF_read (v : Byte) (q : Word) : (s.setF v).read q = s.read q := by simp only [State.read, State.setF_mem]
@[simp] theorem State.setF_reg (v : Byte) (q : Reg8) : (s.setF v).reg q = s.reg q := by cases q <;> rfl
@[simp] theorem State.setF_bc (v : Byte) : (s.setF v).bc = s.bc := by simp only [State.bc, State.setF_b, State.setF_c]
@[simp] theorem State.setF_de (v : Byte) : (s.setF v).de = s.de := by simp only [State.de, State.setF_d, State.setF_e]
@[simp] theorem State.setF_hl (v : Byte) : (s.setF v).hl = s.hl := by simp only [State.hl, State.setF_h, State.setF_l]
@[simp] theorem State.setF_nextPc (v : Byte) (k : Nat) : (s.setF v).nextPc k = s.nextPc k := by simp only [State.nextPc, State.setF_pc]

/-! ## setFlags -/

@[simp] theorem State.setFlags_a (fl : Flags) : (s.setFlags fl).a = s.a := rfl
@[simp] theorem State.setFlags_b (fl : Flags) : (s.setFlags fl).b = s.b := rfl
@[simp] theorem State.setFlags_c (fl : Flags) : (s.setFlags fl).c = s.c := rfl
@[simp] theorem State.setFlags_d (fl : Flags) : (s.setFlags fl).d = s.d := rfl
@[simp] theorem State.setFlags_e (fl : Flags) : (s.setFlags fl).e = s.e := rfl
@[simp] theorem State.setFlags_h (fl : Flags) : (s.setFlags fl).h = s.h := rfl
@[simp] theorem State.setFlags_l (fl : Flags) : (s.setFlags fl).l = s.l := rfl
@[simp] theorem State.setFlags_sp (fl : Flags) : (s.setFlags fl).sp = s.sp := rfl
@[simp] theorem State.setFlags_pc (fl : Flags) : (s.setFlags fl).pc = s.pc := rfl
@[simp] theorem State.setFlags_mode (fl : Flags) : (s.setFlags fl).mode = s.mode := rfl
@[simp] theorem State.setFlags_ime (fl : Flags) : (s.setFlags fl).ime = s.ime := rfl
@[simp] theorem State.setFlags_mem (fl : Flags) : (s.setFlags fl).mem = s.mem := rfl
@[simp] theorem State.setFlags_read (fl : Flags) (q : Word) : (s.setFlags fl).read q = s.read q := by simp only [State.read, State.setFlags_mem]
@[simp] theorem State.setFlags_reg (fl : Flags) (q : Reg8) : (s.setFlags fl).reg q = s.reg q := by cases q <;> rfl
@[simp] theorem State.setFlags_bc (fl : Flags) : (s.setFlags fl).bc = s.bc := by simp only [State.bc, State.setFlags_b, State.setFlags_c]
@[simp] theorem State.setFlags_de (fl : Flags) : (s.setFlags fl).de = s.de := by simp only [State.de, State.setFlags_d, State.setFlags_e]
@[simp] theorem State.setFlags_hl (fl : Flags) : (s.setFlags fl).hl = s.hl := by simp only [State.hl, State.setFlags_h, State.setFlags_l]
@[simp] theorem State.setFlags_nextPc (fl : Flags) (k : Nat) : (s.setFlags fl).nextPc k = s.nextPc k := by simp only [State.nextPc, State.setFlags_pc]

/-! ## write -/

@[simp] theorem State.write_a (a : Word) (v : Byte) : (s.write a v).a = s.a := rfl
@[simp] theorem State.write_f (a : Word) (v : Byte) : (s.write a v).f = s.f := rfl
@[simp] theorem State.write_b (a : Word) (v : Byte) : (s.write a v).b = s.b := rfl
@[simp] theorem State.write_c (a : Word) (v : Byte) : (s.write a v).c = s.c := rfl
@[simp] theorem State.write_d (a : Word) (v : Byte) : (s.write a v).d = s.d := rfl
@[simp] theorem State.write_e (a : Word) (v : Byte) : (s.write a v).e = s.e := rfl
@[simp] theorem State.write_h (a : Word) (v : Byte) : (s.write a v).h = s.h := rfl
@[simp] theorem State.write_l (a : Word) (v : Byte) : (s.write a v).l = s.l := rfl
@[simp] theorem State.write_sp (a : Word) (v : Byte) : (s.write a v).sp = s.sp := rfl
@[simp] theorem State.write_pc (a : Word) (v : Byte) : (s.write a v).pc = s.pc := rfl
@[simp] theorem State.write_mode (a : Word) (v : Byte) : (s.write a v).mode = s.mode := rfl
@[simp] theorem State.write_ime (a : Word) (v : Byte) : (s.write a v).ime = s.ime := rfl
@[simp] theorem State.write_mem (a : Word) (v : Byte) : (s.write a v).mem = s.mem.write a.toNat v := rfl
@[simp] theorem State.write_flags (a : Word) (v : Byte) : (s.write a v).flags = s.flags := by simp only [State.flags, State.write_f]
@[simp] theorem State.write_reg (a : Word) (v : Byte) (q : Reg8) : (s.write a v).reg q = s.reg q := by cases q <;> rfl
@[simp] theorem State.write_bc (a : Word) (v : Byte) : (s.write a v).bc = s.bc := by simp only [State.bc, State.write_b, State.write_c]
@[simp] theorem State.write_de (a : Word) (v : Byte) : (s.write a v).de = s.de := by simp only [State.de, State.write_d, State.write_e]
@[simp] theorem State.write_hl (a : Word) (v : Byte) : (s.write a v).hl = s.hl := by simp only [State.hl, State.write_h, State.write_l]
@[simp] theorem State.write_nextPc (a : Word) (v : Byte) (k : Nat) : (s.write a v).nextPc k = s.nextPc k := by simp only [State.nextPc, State.write_pc]

/-! ## push16 -/

@[simp] theorem State.push16_a (v : Word) : (s.push16 v).a = s.a := rfl
@[simp] theorem State.push16_f (v : Word) : (s.push16 v).f = s.f := rfl
@[simp] theorem State.push16_b (v : Word) : (s.push16 v).b = s.b := rfl
@[simp] theorem State.push16_c (v : Word) : (s.push16 v).c = s.c := rfl
@[simp] theorem State.push16_d (v : Word) : (s.push16 v).d = s.d := rfl
@[simp] theorem State.push16_e (v : Word) : (s.push16 v).e = s.e := rfl
@[simp] theorem State.push16_h (v : Word) : (s.push16 v).h = s.h := rfl
@[simp] theorem State.push16_l (v : Word) : (s.push16 v).l = s.l := rfl
@[simp] theorem State.push16_sp (v : Word) : (s.push16 v).sp = s.sp - 2 := rfl
@[simp] theorem State.push16_pc (v : Word) : (s.push16 v).pc = s.pc := rfl
@[simp] theorem State.push16_mode (v : Word) : (s.push16 v).mode = s.mode := rfl
@[simp] theorem State.push16_ime (v : Word) : (s.push16 v).ime = s.ime := rfl
@[simp] theorem State.push16_mem (v : Word) : (s.push16 v).mem = (s.mem.write (s.sp - 1).toNat (hiByte v)).write (s.sp - 2).toNat (loByte v) := rfl
@[simp] theorem State.push16_flags (v : Word) : (s.push16 v).flags = s.flags := by simp only [State.flags, State.push16_f]
@[simp] theorem State.push16_reg (v : Word) (q : Reg8) : (s.push16 v).reg q = s.reg q := by cases q <;> rfl
@[simp] theorem State.push16_bc (v : Word) : (s.push16 v).bc = s.bc := by simp only [State.bc, State.push16_b, State.push16_c]
@[simp] theorem State.push16_de (v : Word) : (s.push16 v).de = s.de := by simp only [State.de, State.push16_d, State.push16_e]
@[simp] theorem State.push16_hl (v : Word) : (s.push16 v).hl = s.hl := by simp only [State.hl, State.push16_h, State.push16_l]
@[simp] theorem State.push16_nextPc (v : Word) (k : Nat) : (s.push16 v).nextPc k = s.nextPc k := by simp only [State.nextPc, State.push16_pc]

/-! ## drop16 -/

@[simp] theorem State.drop16_a : s.drop16.a = s.a := rfl
@[simp] theorem State.drop16_f : s.drop16.f = s.f := rfl
@[simp] theorem State.drop16_b : s.drop16.b = s.b := rfl
@[simp] theorem State.drop16_c : s.drop16.c = s.c := rfl
@[simp] theorem State.drop16_d : s.drop16.d = s.d := rfl
@[simp] theorem State.drop16_e : s.drop16.e = s.e := rfl
@[simp] theorem State.drop16_h : s.drop16.h = s.h := rfl
@[simp] theorem State.drop16_l : s.drop16.l = s.l := rfl
@[simp] theorem State.drop16_sp : s.drop16.sp = s.sp + 2 := rfl
@[simp] theorem State.drop16_pc : s.drop16.pc = s.pc := rfl
@[simp] theorem State.drop16_mode : s.drop16.mode = s.mode := rfl
@[simp] theorem State.drop16_ime : s.drop16.ime = s.ime := rfl
@[simp] theorem State.drop16_mem : s.drop16.mem = s.mem := rfl
@[simp] theorem State.drop16_flags : s.drop16.flags = s.flags := by simp only [State.flags, State.drop16_f]
@[simp] theorem State.drop16_read (q : Word) : s.drop16.read q = s.read q := by simp only [State.read, State.drop16_mem]
@[simp] theorem State.drop16_reg (q : Reg8) : s.drop16.reg q = s.reg q := by cases q <;> rfl
@[simp] theorem State.drop16_bc : s.drop16.bc = s.bc := by simp only [State.bc, State.drop16_b, State.drop16_c]
@[simp] theorem State.drop16_de : s.drop16.de = s.de := by simp only [State.de, State.drop16_d, State.drop16_e]
@[simp] theorem State.drop16_hl : s.drop16.hl = s.hl := by simp only [State.hl, State.drop16_h, State.drop16_l]
@[simp] theorem State.drop16_nextPc (k : Nat) : s.drop16.nextPc k = s.nextPc k := by simp only [State.nextPc, State.drop16_pc]

/-! ## jump -/

@[simp] theorem State.jump_a (t : Word) : (s.jump t).a = s.a := rfl
@[simp] theorem State.jump_f (t : Word) : (s.jump t).f = s.f := rfl
@[simp] theorem State.jump_b (t : Word) : (s.jump t).b = s.b := rfl
@[simp] theorem State.jump_c (t : Word) : (s.jump t).c = s.c := rfl
@[simp] theorem State.jump_d (t : Word) : (s.jump t).d = s.d := rfl
@[simp] theorem State.jump_e (t : Word) : (s.jump t).e = s.e := rfl
@[simp] theorem State.jump_h (t : Word) : (s.jump t).h = s.h := rfl
@[simp] theorem State.jump_l (t : Word) : (s.jump t).l = s.l := rfl
@[simp] theorem State.jump_sp (t : Word) : (s.jump t).sp = s.sp := rfl
@[simp] theorem State.jump_pc (t : Word) : (s.jump t).pc = t := rfl
@[simp] theorem State.jump_mode (t : Word) : (s.jump t).mode = s.mode := rfl
@[simp] theorem State.jump_ime (t : Word) : (s.jump t).ime = s.ime := rfl
@[simp] theorem State.jump_mem (t : Word) : (s.jump t).mem = s.mem := rfl
@[simp] theorem State.jump_flags (t : Word) : (s.jump t).flags = s.flags := by simp only [State.flags, State.jump_f]
@[simp] theorem State.jump_read (t : Word) (q : Word) : (s.jump t).read q = s.read q := by simp only [State.read, State.jump_mem]
@[simp] theorem State.jump_reg (t : Word) (q : Reg8) : (s.jump t).reg q = s.reg q := by cases q <;> rfl
@[simp] theorem State.jump_bc (t : Word) : (s.jump t).bc = s.bc := by simp only [State.bc, State.jump_b, State.jump_c]
@[simp] theorem State.jump_de (t : Word) : (s.jump t).de = s.de := by simp only [State.de, State.jump_d, State.jump_e]
@[simp] theorem State.jump_hl (t : Word) : (s.jump t).hl = s.hl := by simp only [State.hl, State.jump_h, State.jump_l]

/-! ## advance -/

@[simp] theorem State.advance_a (n : Nat) : (s.advance n).a = s.a := rfl
@[simp] theorem State.advance_f (n : Nat) : (s.advance n).f = s.f := rfl
@[simp] theorem State.advance_b (n : Nat) : (s.advance n).b = s.b := rfl
@[simp] theorem State.advance_c (n : Nat) : (s.advance n).c = s.c := rfl
@[simp] theorem State.advance_d (n : Nat) : (s.advance n).d = s.d := rfl
@[simp] theorem State.advance_e (n : Nat) : (s.advance n).e = s.e := rfl
@[simp] theorem State.advance_h (n : Nat) : (s.advance n).h = s.h := rfl
@[simp] theorem State.advance_l (n : Nat) : (s.advance n).l = s.l := rfl
@[simp] theorem State.advance_sp (n : Nat) : (s.advance n).sp = s.sp := rfl
@[simp] theorem State.advance_pc (n : Nat) : (s.advance n).pc = s.nextPc n := rfl
@[simp] theorem State.advance_mode (n : Nat) : (s.advance n).mode = s.mode := rfl
@[simp] theorem State.advance_ime (n : Nat) : (s.advance n).ime = s.ime := rfl
@[simp] theorem State.advance_mem (n : Nat) : (s.advance n).mem = s.mem := rfl
@[simp] theorem State.advance_flags (n : Nat) : (s.advance n).flags = s.flags := by simp only [State.flags, State.advance_f]
@[simp] theorem State.advance_read (n : Nat) (q : Word) : (s.advance n).read q = s.read q := by simp only [State.read, State.advance_mem]
@[simp] theorem State.advance_reg (n : Nat) (q : Reg8) : (s.advance n).reg q = s.reg q := by cases q <;> rfl
@[simp] theorem State.advance_bc (n : Nat) : (s.advance n).bc = s.bc := by simp only [State.bc, State.advance_b, State.advance_c]
@[simp] theorem State.advance_de (n : Nat) : (s.advance n).de = s.de := by simp only [State.de, State.advance_d, State.advance_e]
@[simp] theorem State.advance_hl (n : Nat) : (s.advance n).hl = s.hl := by simp only [State.hl, State.advance_h, State.advance_l]

/-! ## setLoc -/

@[simp] theorem State.setLoc_f (x : Loc) (v : Byte) : (s.setLoc x v).f = s.f := by (cases x with | reg r => cases r <;> rfl | atHl => rfl)
@[simp] theorem State.setLoc_sp (x : Loc) (v : Byte) : (s.setLoc x v).sp = s.sp := by (cases x with | reg r => cases r <;> rfl | atHl => rfl)
@[simp] theorem State.setLoc_pc (x : Loc) (v : Byte) : (s.setLoc x v).pc = s.pc := by (cases x with | reg r => cases r <;> rfl | atHl => rfl)
@[simp] theorem State.setLoc_mode (x : Loc) (v : Byte) : (s.setLoc x v).mode = s.mode := by (cases x with | reg r => cases r <;> rfl | atHl => rfl)
@[simp] theorem State.setLoc_ime (x : Loc) (v : Byte) : (s.setLoc x v).ime = s.ime := by (cases x with | reg r => cases r <;> rfl | atHl => rfl)
@[simp] theorem State.setLoc_flags (x : Loc) (v : Byte) : (s.setLoc x v).flags = s.flags := by simp only [State.flags, State.setLoc_f]
@[simp] theorem State.setLoc_nextPc (x : Loc) (v : Byte) (k : Nat) : (s.setLoc x v).nextPc k = s.nextPc k := by simp only [State.nextPc, State.setLoc_pc]

/-! ## stepAccAddress -/

@[simp] theorem State.stepAccAddress_a (x : AccAddr) : (s.stepAccAddress x).a = s.a := by cases x <;> rfl
@[simp] theorem State.stepAccAddress_f (x : AccAddr) : (s.stepAccAddress x).f = s.f := by cases x <;> rfl
@[simp] theorem State.stepAccAddress_b (x : AccAddr) : (s.stepAccAddress x).b = s.b := by cases x <;> rfl
@[simp] theorem State.stepAccAddress_c (x : AccAddr) : (s.stepAccAddress x).c = s.c := by cases x <;> rfl
@[simp] theorem State.stepAccAddress_d (x : AccAddr) : (s.stepAccAddress x).d = s.d := by cases x <;> rfl
@[simp] theorem State.stepAccAddress_e (x : AccAddr) : (s.stepAccAddress x).e = s.e := by cases x <;> rfl
@[simp] theorem State.stepAccAddress_sp (x : AccAddr) : (s.stepAccAddress x).sp = s.sp := by cases x <;> rfl
@[simp] theorem State.stepAccAddress_pc (x : AccAddr) : (s.stepAccAddress x).pc = s.pc := by cases x <;> rfl
@[simp] theorem State.stepAccAddress_mode (x : AccAddr) : (s.stepAccAddress x).mode = s.mode := by cases x <;> rfl
@[simp] theorem State.stepAccAddress_ime (x : AccAddr) : (s.stepAccAddress x).ime = s.ime := by cases x <;> rfl
@[simp] theorem State.stepAccAddress_mem (x : AccAddr) : (s.stepAccAddress x).mem = s.mem := by cases x <;> rfl
@[simp] theorem State.stepAccAddress_flags (x : AccAddr) : (s.stepAccAddress x).flags = s.flags := by simp only [State.flags, State.stepAccAddress_f]
@[simp] theorem State.stepAccAddress_read (x : AccAddr) (q : Word) : (s.stepAccAddress x).read q = s.read q := by simp only [State.read, State.stepAccAddress_mem]
@[simp] theorem State.stepAccAddress_bc (x : AccAddr) : (s.stepAccAddress x).bc = s.bc := by simp only [State.bc, State.stepAccAddress_b, State.stepAccAddress_c]
@[simp] theorem State.stepAccAddress_de (x : AccAddr) : (s.stepAccAddress x).de = s.de := by simp only [State.de, State.stepAccAddress_d, State.stepAccAddress_e]
@[simp] theorem State.stepAccAddress_nextPc (x : AccAddr) (k : Nat) : (s.stepAccAddress x).nextPc k = s.nextPc k := by simp only [State.nextPc, State.stepAccAddress_pc]

/-! ## wake -/

@[simp] theorem State.wake_a : s.wake.a = s.a := rfl
@[simp] theorem State.wake_f : s.wake.f = s.f := rfl
@[simp] theorem State.wake_b : s.wake.b = s.b := rfl
@[simp] theorem State.wake_c : s.wake.c = s.c := rfl
@[simp] theorem State.wake_d : s.wake.d = s.d := rfl
@[simp] theorem State.wake_e : s.wake.e = s.e := rfl
@[simp] theorem State.wake_h : s.wake.h = s.h := rfl
@[simp] theorem State.wake_l : s.wake.l = s.l := rfl
@[simp] theorem State.wake_sp : s.wake.sp = s.sp := rfl
@[simp] theorem State.wake_pc : s.wake.pc = s.pc := rfl
@[simp] theorem State.wake_mode : s.wake.mode = .running := rfl
@[simp] theorem State.wake_ime : s.wake.ime = s.ime := rfl
@[simp] theorem State.wake_mem : s.wake.mem = s.mem := rfl
@[simp] theorem State.wake_flags : s.wake.flags = s.flags := by simp only [State.flags, State.wake_f]
@[simp] theorem State.wake_read (q : Word) : s.wake.read q = s.read q := by simp only [State.read, State.wake_mem]
@[simp] theorem State.wake_reg (q : Reg8) : s.wake.reg q = s.reg q := by cases q <;> rfl
@[simp] theorem State.wake_bc : s.wake.bc = s.bc := by simp only [State.bc, State.wake_b, State.wake_c]
@[simp] theorem State.wake_de : s.wake.de = s.de := by simp only [State.de, State.wake_d, State.wake_e]
@[simp] theorem State.wake_hl : s.wake.hl = s.hl := by simp only [State.hl, State.wake_h, State.wake_l]
@[simp] theorem State.wake_nextPc (k : Nat) : s.wake.nextPc k = s.nextPc k := by simp only [State.nextPc, State.wake_pc]

/-! ## Reading back what an update wrote -/

@[simp] theorem State.setReg_reg (r q : Reg8) (v : Byte) :
    (s.setReg r v).reg q = if q = r then v else s.reg q := by
  cases r <;> cases q <;> rfl

@[simp] theorem joinBytes_hi_lo (v : Word) : joinBytes (hiByte v) (loByte v) = v := by
  unfold joinBytes hiByte loByte
  ext i hi
  simp only [BitVec.getElem_append, BitVec.getElem_extractLsb']
  split
  · simp [BitVec.getLsbD_eq_getElem hi]
  · rename_i h
    have h8 : 8 + (i - 8) = i := by omega
    rw [h8, BitVec.getLsbD_eq_getElem hi]

@[simp] theorem hiByte_join (x y : Byte) : hiByte (joinBytes x y) = x := by
  unfold joinBytes hiByte
  ext i hi
  rw [BitVec.getElem_extractLsb']
  refine (BitVec.getLsbD_append (x := x) (y := y)).trans ?_
  have h : ¬ 8 + i < 8 := by omega
  simp [h, BitVec.getLsbD_eq_getElem hi]

@[simp] theorem loByte_join (x y : Byte) : loByte (joinBytes x y) = y := by
  unfold joinBytes loByte
  ext i hi
  rw [BitVec.getElem_extractLsb']
  refine (BitVec.getLsbD_append (x := x) (y := y)).trans ?_
  simp [hi]

@[simp] theorem State.setHl_hl (v : Word) : (s.setHl v).hl = v := by
  simp only [State.hl, State.setHl_h, State.setHl_l, joinBytes_hi_lo]

@[simp] theorem State.setPair_pair (rp : Pair) (v : Word) : (s.setPair rp v).pair rp = v := by
  cases rp
  · exact joinBytes_hi_lo v
  · exact joinBytes_hi_lo v
  · exact State.setHl_hl s v
  · rfl

@[simp] theorem State.reg_a : s.reg .a = s.a := rfl
@[simp] theorem State.reg_b : s.reg .b = s.b := rfl
@[simp] theorem State.reg_c : s.reg .c = s.c := rfl
@[simp] theorem State.reg_d : s.reg .d = s.d := rfl
@[simp] theorem State.reg_e : s.reg .e = s.e := rfl
@[simp] theorem State.reg_h : s.reg .h = s.h := rfl
@[simp] theorem State.reg_l : s.reg .l = s.l := rfl

/-- The registers a 16-bit write changes. -/
theorem State.setPair_reg_of_ne (rp : Pair) (v : Word) (q : Reg8)
    (hq : q ∉ (match rp with | .bc => [Reg8.b, .c] | .de => [.d, .e] | .hl => [.h, .l] | .sp => [])) :
    (s.setPair rp v).reg q = s.reg q := by
  cases rp <;> cases q <;> first | rfl | (exact absurd (by decide) hq)

@[simp] theorem State.setPair_sp_of_ne (rp : Pair) (v : Word) (h : rp ≠ .sp) :
    (s.setPair rp v).sp = s.sp := by
  cases rp <;> first | rfl | exact absurd rfl h

@[simp] theorem retire_eq (n : Nat) : retire n s = .next (s.advance n) := rfl

@[simp] theorem State.loc_reg (r : Reg8) : s.loc (.reg r) = s.reg r := rfl
@[simp] theorem State.loc_atHl : s.loc .atHl = s.read s.hl := rfl
@[simp] theorem State.setLoc_reg (r : Reg8) (v : Byte) : s.setLoc (.reg r) v = s.setReg r v := rfl
@[simp] theorem State.setLoc_atHl (v : Byte) : s.setLoc .atHl v = s.write s.hl v := rfl

end Sys2Proof.Machine
end

