-- ==== Sys2Proof/Laws/PerInstr.lean ====
section
/-! SUPPORT. The per-instruction family RoundTrip: the decoder reads back every row from its own bytes, one lemma per
constructor of Instr (R80 to R94). -/

namespace Sys2Proof.Laws

open Sys2Proof.Machine

/-- Decoding the bytes of the row gives the row and leaves nothing over. -/
def RoundTrip.Statement (i : Instr) : Prop := decode (encode i) = .ok (i, [])

/-- A row with a 16-bit operand decodes to itself when its cell of the base map is its own (R90). -/
theorem decode_imm16 {op : Byte} {f : Word → Instr} (hc : baseCell op = some (.imm16 f)) (v : Word) :
    decode (op :: operand16 v) = .ok (f v, []) := by
  unfold decode operand16
  simp only [hc, decodeImm16, joinBytes_hi_lo]

theorem RoundTrip.nop : RoundTrip.Statement .nop := rfl
theorem RoundTrip.ldBcD16 (d16 : Word) : RoundTrip.Statement (.ldBcD16 d16) := decode_imm16 rfl d16
theorem RoundTrip.ldAtBcA : RoundTrip.Statement .ldAtBcA := rfl
theorem RoundTrip.incBc : RoundTrip.Statement .incBc := rfl
theorem RoundTrip.incB : RoundTrip.Statement .incB := rfl
theorem RoundTrip.decB : RoundTrip.Statement .decB := rfl
theorem RoundTrip.ldBD8 (d8 : Byte) : RoundTrip.Statement (.ldBD8 d8) := rfl
theorem RoundTrip.rlca : RoundTrip.Statement .rlca := rfl
theorem RoundTrip.ldAtA16Sp (a16 : Word) : RoundTrip.Statement (.ldAtA16Sp a16) := decode_imm16 rfl a16
theorem RoundTrip.addHlBc : RoundTrip.Statement .addHlBc := rfl
theorem RoundTrip.ldAAtBc : RoundTrip.Statement .ldAAtBc := rfl
theorem RoundTrip.decBc : RoundTrip.Statement .decBc := rfl
theorem RoundTrip.incC : RoundTrip.Statement .incC := rfl
theorem RoundTrip.decC : RoundTrip.Statement .decC := rfl
theorem RoundTrip.ldCD8 (d8 : Byte) : RoundTrip.Statement (.ldCD8 d8) := rfl
theorem RoundTrip.rrca : RoundTrip.Statement .rrca := rfl
theorem RoundTrip.stop (x : Byte) : RoundTrip.Statement (.stop x) := rfl
theorem RoundTrip.ldDeD16 (d16 : Word) : RoundTrip.Statement (.ldDeD16 d16) := decode_imm16 rfl d16
theorem RoundTrip.ldAtDeA : RoundTrip.Statement .ldAtDeA := rfl
theorem RoundTrip.incDe : RoundTrip.Statement .incDe := rfl
theorem RoundTrip.incD : RoundTrip.Statement .incD := rfl
theorem RoundTrip.decD : RoundTrip.Statement .decD := rfl
theorem RoundTrip.ldDD8 (d8 : Byte) : RoundTrip.Statement (.ldDD8 d8) := rfl
theorem RoundTrip.rla : RoundTrip.Statement .rla := rfl
theorem RoundTrip.jrE8 (e8 : Byte) : RoundTrip.Statement (.jrE8 e8) := rfl
theorem RoundTrip.addHlDe : RoundTrip.Statement .addHlDe := rfl
theorem RoundTrip.ldAAtDe : RoundTrip.Statement .ldAAtDe := rfl
theorem RoundTrip.decDe : RoundTrip.Statement .decDe := rfl
theorem RoundTrip.incE : RoundTrip.Statement .incE := rfl
theorem RoundTrip.decE : RoundTrip.Statement .decE := rfl
theorem RoundTrip.ldED8 (d8 : Byte) : RoundTrip.Statement (.ldED8 d8) := rfl
theorem RoundTrip.rra : RoundTrip.Statement .rra := rfl
theorem RoundTrip.jrNzE8 (e8 : Byte) : RoundTrip.Statement (.jrNzE8 e8) := rfl
theorem RoundTrip.ldHlD16 (d16 : Word) : RoundTrip.Statement (.ldHlD16 d16) := decode_imm16 rfl d16
theorem RoundTrip.ldAtHlIncA : RoundTrip.Statement .ldAtHlIncA := rfl
theorem RoundTrip.incHl : RoundTrip.Statement .incHl := rfl
theorem RoundTrip.incH : RoundTrip.Statement .incH := rfl
theorem RoundTrip.decH : RoundTrip.Statement .decH := rfl
theorem RoundTrip.ldHD8 (d8 : Byte) : RoundTrip.Statement (.ldHD8 d8) := rfl
theorem RoundTrip.daa : RoundTrip.Statement .daa := rfl
theorem RoundTrip.jrZE8 (e8 : Byte) : RoundTrip.Statement (.jrZE8 e8) := rfl
theorem RoundTrip.addHlHl : RoundTrip.Statement .addHlHl := rfl
theorem RoundTrip.ldAAtHlInc : RoundTrip.Statement .ldAAtHlInc := rfl
theorem RoundTrip.decHl : RoundTrip.Statement .decHl := rfl
theorem RoundTrip.incL : RoundTrip.Statement .incL := rfl
theorem RoundTrip.decL : RoundTrip.Statement .decL := rfl
theorem RoundTrip.ldLD8 (d8 : Byte) : RoundTrip.Statement (.ldLD8 d8) := rfl
theorem RoundTrip.cpl : RoundTrip.Statement .cpl := rfl
theorem RoundTrip.jrNcE8 (e8 : Byte) : RoundTrip.Statement (.jrNcE8 e8) := rfl
theorem RoundTrip.ldSpD16 (d16 : Word) : RoundTrip.Statement (.ldSpD16 d16) := decode_imm16 rfl d16
theorem RoundTrip.ldAtHlDecA : RoundTrip.Statement .ldAtHlDecA := rfl
theorem RoundTrip.incSp : RoundTrip.Statement .incSp := rfl
theorem RoundTrip.incAtHl : RoundTrip.Statement .incAtHl := rfl
theorem RoundTrip.decAtHl : RoundTrip.Statement .decAtHl := rfl
theorem RoundTrip.ldAtHlD8 (d8 : Byte) : RoundTrip.Statement (.ldAtHlD8 d8) := rfl
theorem RoundTrip.scf : RoundTrip.Statement .scf := rfl
theorem RoundTrip.jrCE8 (e8 : Byte) : RoundTrip.Statement (.jrCE8 e8) := rfl
theorem RoundTrip.addHlSp : RoundTrip.Statement .addHlSp := rfl
theorem RoundTrip.ldAAtHlDec : RoundTrip.Statement .ldAAtHlDec := rfl
theorem RoundTrip.decSp : RoundTrip.Statement .decSp := rfl
theorem RoundTrip.incA : RoundTrip.Statement .incA := rfl
theorem RoundTrip.decA : RoundTrip.Statement .decA := rfl
theorem RoundTrip.ldAD8 (d8 : Byte) : RoundTrip.Statement (.ldAD8 d8) := rfl
theorem RoundTrip.ccf : RoundTrip.Statement .ccf := rfl
theorem RoundTrip.ldBB : RoundTrip.Statement .ldBB := rfl
theorem RoundTrip.ldBC : RoundTrip.Statement .ldBC := rfl
theorem RoundTrip.ldBD : RoundTrip.Statement .ldBD := rfl
theorem RoundTrip.ldBE : RoundTrip.Statement .ldBE := rfl
theorem RoundTrip.ldBH : RoundTrip.Statement .ldBH := rfl
theorem RoundTrip.ldBL : RoundTrip.Statement .ldBL := rfl
theorem RoundTrip.ldBAtHl : RoundTrip.Statement .ldBAtHl := rfl
theorem RoundTrip.ldBA : RoundTrip.Statement .ldBA := rfl
theorem RoundTrip.ldCB : RoundTrip.Statement .ldCB := rfl
theorem RoundTrip.ldCC : RoundTrip.Statement .ldCC := rfl
theorem RoundTrip.ldCD : RoundTrip.Statement .ldCD := rfl
theorem RoundTrip.ldCE : RoundTrip.Statement .ldCE := rfl
theorem RoundTrip.ldCH : RoundTrip.Statement .ldCH := rfl
theorem RoundTrip.ldCL : RoundTrip.Statement .ldCL := rfl
theorem RoundTrip.ldCAtHl : RoundTrip.Statement .ldCAtHl := rfl
theorem RoundTrip.ldCA : RoundTrip.Statement .ldCA := rfl
theorem RoundTrip.ldDB : RoundTrip.Statement .ldDB := rfl
theorem RoundTrip.ldDC : RoundTrip.Statement .ldDC := rfl
theorem RoundTrip.ldDD : RoundTrip.Statement .ldDD := rfl
theorem RoundTrip.ldDE : RoundTrip.Statement .ldDE := rfl
theorem RoundTrip.ldDH : RoundTrip.Statement .ldDH := rfl
theorem RoundTrip.ldDL : RoundTrip.Statement .ldDL := rfl
theorem RoundTrip.ldDAtHl : RoundTrip.Statement .ldDAtHl := rfl
theorem RoundTrip.ldDA : RoundTrip.Statement .ldDA := rfl
theorem RoundTrip.ldEB : RoundTrip.Statement .ldEB := rfl
theorem RoundTrip.ldEC : RoundTrip.Statement .ldEC := rfl
theorem RoundTrip.ldED : RoundTrip.Statement .ldED := rfl
theorem RoundTrip.ldEE : RoundTrip.Statement .ldEE := rfl
theorem RoundTrip.ldEH : RoundTrip.Statement .ldEH := rfl
theorem RoundTrip.ldEL : RoundTrip.Statement .ldEL := rfl
theorem RoundTrip.ldEAtHl : RoundTrip.Statement .ldEAtHl := rfl
theorem RoundTrip.ldEA : RoundTrip.Statement .ldEA := rfl
theorem RoundTrip.ldHB : RoundTrip.Statement .ldHB := rfl
theorem RoundTrip.ldHC : RoundTrip.Statement .ldHC := rfl
theorem RoundTrip.ldHD : RoundTrip.Statement .ldHD := rfl
theorem RoundTrip.ldHE : RoundTrip.Statement .ldHE := rfl
theorem RoundTrip.ldHH : RoundTrip.Statement .ldHH := rfl
theorem RoundTrip.ldHL : RoundTrip.Statement .ldHL := rfl
theorem RoundTrip.ldHAtHl : RoundTrip.Statement .ldHAtHl := rfl
theorem RoundTrip.ldHA : RoundTrip.Statement .ldHA := rfl
theorem RoundTrip.ldLB : RoundTrip.Statement .ldLB := rfl
theorem RoundTrip.ldLC : RoundTrip.Statement .ldLC := rfl
theorem RoundTrip.ldLD : RoundTrip.Statement .ldLD := rfl
theorem RoundTrip.ldLE : RoundTrip.Statement .ldLE := rfl
theorem RoundTrip.ldLH : RoundTrip.Statement .ldLH := rfl
theorem RoundTrip.ldLL : RoundTrip.Statement .ldLL := rfl
theorem RoundTrip.ldLAtHl : RoundTrip.Statement .ldLAtHl := rfl
theorem RoundTrip.ldLA : RoundTrip.Statement .ldLA := rfl
theorem RoundTrip.ldAtHlB : RoundTrip.Statement .ldAtHlB := rfl
theorem RoundTrip.ldAtHlC : RoundTrip.Statement .ldAtHlC := rfl
theorem RoundTrip.ldAtHlD : RoundTrip.Statement .ldAtHlD := rfl
theorem RoundTrip.ldAtHlE : RoundTrip.Statement .ldAtHlE := rfl
theorem RoundTrip.ldAtHlH : RoundTrip.Statement .ldAtHlH := rfl
theorem RoundTrip.ldAtHlL : RoundTrip.Statement .ldAtHlL := rfl
theorem RoundTrip.halt : RoundTrip.Statement .halt := rfl
theorem RoundTrip.ldAtHlA : RoundTrip.Statement .ldAtHlA := rfl
theorem RoundTrip.ldAB : RoundTrip.Statement .ldAB := rfl
theorem RoundTrip.ldAC : RoundTrip.Statement .ldAC := rfl
theorem RoundTrip.ldAD : RoundTrip.Statement .ldAD := rfl
theorem RoundTrip.ldAE : RoundTrip.Statement .ldAE := rfl
theorem RoundTrip.ldAH : RoundTrip.Statement .ldAH := rfl
theorem RoundTrip.ldAL : RoundTrip.Statement .ldAL := rfl
theorem RoundTrip.ldAAtHl : RoundTrip.Statement .ldAAtHl := rfl
theorem RoundTrip.ldAA : RoundTrip.Statement .ldAA := rfl
theorem RoundTrip.addAB : RoundTrip.Statement .addAB := rfl
theorem RoundTrip.addAC : RoundTrip.Statement .addAC := rfl
theorem RoundTrip.addAD : RoundTrip.Statement .addAD := rfl
theorem RoundTrip.addAE : RoundTrip.Statement .addAE := rfl
theorem RoundTrip.addAH : RoundTrip.Statement .addAH := rfl
theorem RoundTrip.addAL : RoundTrip.Statement .addAL := rfl
theorem RoundTrip.addAAtHl : RoundTrip.Statement .addAAtHl := rfl
theorem RoundTrip.addAA : RoundTrip.Statement .addAA := rfl
theorem RoundTrip.adcAB : RoundTrip.Statement .adcAB := rfl
theorem RoundTrip.adcAC : RoundTrip.Statement .adcAC := rfl
theorem RoundTrip.adcAD : RoundTrip.Statement .adcAD := rfl
theorem RoundTrip.adcAE : RoundTrip.Statement .adcAE := rfl
theorem RoundTrip.adcAH : RoundTrip.Statement .adcAH := rfl
theorem RoundTrip.adcAL : RoundTrip.Statement .adcAL := rfl
theorem RoundTrip.adcAAtHl : RoundTrip.Statement .adcAAtHl := rfl
theorem RoundTrip.adcAA : RoundTrip.Statement .adcAA := rfl
theorem RoundTrip.subB : RoundTrip.Statement .subB := rfl
theorem RoundTrip.subC : RoundTrip.Statement .subC := rfl
theorem RoundTrip.subD : RoundTrip.Statement .subD := rfl
theorem RoundTrip.subE : RoundTrip.Statement .subE := rfl
theorem RoundTrip.subH : RoundTrip.Statement .subH := rfl
theorem RoundTrip.subL : RoundTrip.Statement .subL := rfl
theorem RoundTrip.subAtHl : RoundTrip.Statement .subAtHl := rfl
theorem RoundTrip.subA : RoundTrip.Statement .subA := rfl
theorem RoundTrip.sbcAB : RoundTrip.Statement .sbcAB := rfl
theorem RoundTrip.sbcAC : RoundTrip.Statement .sbcAC := rfl
theorem RoundTrip.sbcAD : RoundTrip.Statement .sbcAD := rfl
theorem RoundTrip.sbcAE : RoundTrip.Statement .sbcAE := rfl
theorem RoundTrip.sbcAH : RoundTrip.Statement .sbcAH := rfl
theorem RoundTrip.sbcAL : RoundTrip.Statement .sbcAL := rfl
theorem RoundTrip.sbcAAtHl : RoundTrip.Statement .sbcAAtHl := rfl
theorem RoundTrip.sbcAA : RoundTrip.Statement .sbcAA := rfl
theorem RoundTrip.andB : RoundTrip.Statement .andB := rfl
theorem RoundTrip.andC : RoundTrip.Statement .andC := rfl
theorem RoundTrip.andD : RoundTrip.Statement .andD := rfl
theorem RoundTrip.andE : RoundTrip.Statement .andE := rfl
theorem RoundTrip.andH : RoundTrip.Statement .andH := rfl
theorem RoundTrip.andL : RoundTrip.Statement .andL := rfl
theorem RoundTrip.andAtHl : RoundTrip.Statement .andAtHl := rfl
theorem RoundTrip.andA : RoundTrip.Statement .andA := rfl
theorem RoundTrip.xorB : RoundTrip.Statement .xorB := rfl
theorem RoundTrip.xorC : RoundTrip.Statement .xorC := rfl
theorem RoundTrip.xorD : RoundTrip.Statement .xorD := rfl
theorem RoundTrip.xorE : RoundTrip.Statement .xorE := rfl
theorem RoundTrip.xorH : RoundTrip.Statement .xorH := rfl
theorem RoundTrip.xorL : RoundTrip.Statement .xorL := rfl
theorem RoundTrip.xorAtHl : RoundTrip.Statement .xorAtHl := rfl
theorem RoundTrip.xorA : RoundTrip.Statement .xorA := rfl
theorem RoundTrip.orB : RoundTrip.Statement .orB := rfl
theorem RoundTrip.orC : RoundTrip.Statement .orC := rfl
theorem RoundTrip.orD : RoundTrip.Statement .orD := rfl
theorem RoundTrip.orE : RoundTrip.Statement .orE := rfl
theorem RoundTrip.orH : RoundTrip.Statement .orH := rfl
theorem RoundTrip.orL : RoundTrip.Statement .orL := rfl
theorem RoundTrip.orAtHl : RoundTrip.Statement .orAtHl := rfl
theorem RoundTrip.orA : RoundTrip.Statement .orA := rfl
theorem RoundTrip.cpB : RoundTrip.Statement .cpB := rfl
theorem RoundTrip.cpC : RoundTrip.Statement .cpC := rfl
theorem RoundTrip.cpD : RoundTrip.Statement .cpD := rfl
theorem RoundTrip.cpE : RoundTrip.Statement .cpE := rfl
theorem RoundTrip.cpH : RoundTrip.Statement .cpH := rfl
theorem RoundTrip.cpL : RoundTrip.Statement .cpL := rfl
theorem RoundTrip.cpAtHl : RoundTrip.Statement .cpAtHl := rfl
theorem RoundTrip.cpA : RoundTrip.Statement .cpA := rfl
theorem RoundTrip.retNz : RoundTrip.Statement .retNz := rfl
theorem RoundTrip.popBc : RoundTrip.Statement .popBc := rfl
theorem RoundTrip.jpNzA16 (a16 : Word) : RoundTrip.Statement (.jpNzA16 a16) := decode_imm16 rfl a16
theorem RoundTrip.jpA16 (a16 : Word) : RoundTrip.Statement (.jpA16 a16) := decode_imm16 rfl a16
theorem RoundTrip.callNzA16 (a16 : Word) : RoundTrip.Statement (.callNzA16 a16) := decode_imm16 rfl a16
theorem RoundTrip.pushBc : RoundTrip.Statement .pushBc := rfl
theorem RoundTrip.addAD8 (d8 : Byte) : RoundTrip.Statement (.addAD8 d8) := rfl
theorem RoundTrip.rst00 : RoundTrip.Statement .rst00 := rfl
theorem RoundTrip.retZ : RoundTrip.Statement .retZ := rfl
theorem RoundTrip.ret : RoundTrip.Statement .ret := rfl
theorem RoundTrip.jpZA16 (a16 : Word) : RoundTrip.Statement (.jpZA16 a16) := decode_imm16 rfl a16
theorem RoundTrip.callZA16 (a16 : Word) : RoundTrip.Statement (.callZA16 a16) := decode_imm16 rfl a16
theorem RoundTrip.callA16 (a16 : Word) : RoundTrip.Statement (.callA16 a16) := decode_imm16 rfl a16
theorem RoundTrip.adcAD8 (d8 : Byte) : RoundTrip.Statement (.adcAD8 d8) := rfl
theorem RoundTrip.rst08 : RoundTrip.Statement .rst08 := rfl
theorem RoundTrip.retNc : RoundTrip.Statement .retNc := rfl
theorem RoundTrip.popDe : RoundTrip.Statement .popDe := rfl
theorem RoundTrip.jpNcA16 (a16 : Word) : RoundTrip.Statement (.jpNcA16 a16) := decode_imm16 rfl a16
theorem RoundTrip.callNcA16 (a16 : Word) : RoundTrip.Statement (.callNcA16 a16) := decode_imm16 rfl a16
theorem RoundTrip.pushDe : RoundTrip.Statement .pushDe := rfl
theorem RoundTrip.subD8 (d8 : Byte) : RoundTrip.Statement (.subD8 d8) := rfl
theorem RoundTrip.rst10 : RoundTrip.Statement .rst10 := rfl
theorem RoundTrip.retC : RoundTrip.Statement .retC := rfl
theorem RoundTrip.reti : RoundTrip.Statement .reti := rfl
theorem RoundTrip.jpCA16 (a16 : Word) : RoundTrip.Statement (.jpCA16 a16) := decode_imm16 rfl a16
theorem RoundTrip.callCA16 (a16 : Word) : RoundTrip.Statement (.callCA16 a16) := decode_imm16 rfl a16
theorem RoundTrip.sbcAD8 (d8 : Byte) : RoundTrip.Statement (.sbcAD8 d8) := rfl
theorem RoundTrip.rst18 : RoundTrip.Statement .rst18 := rfl
theorem RoundTrip.ldhAtA8A (a8 : Byte) : RoundTrip.Statement (.ldhAtA8A a8) := rfl
theorem RoundTrip.popHl : RoundTrip.Statement .popHl := rfl
theorem RoundTrip.ldAtCA : RoundTrip.Statement .ldAtCA := rfl
theorem RoundTrip.pushHl : RoundTrip.Statement .pushHl := rfl
theorem RoundTrip.andD8 (d8 : Byte) : RoundTrip.Statement (.andD8 d8) := rfl
theorem RoundTrip.rst20 : RoundTrip.Statement .rst20 := rfl
theorem RoundTrip.addSpE8 (e8 : Byte) : RoundTrip.Statement (.addSpE8 e8) := rfl
theorem RoundTrip.jpHl : RoundTrip.Statement .jpHl := rfl
theorem RoundTrip.ldAtA16A (a16 : Word) : RoundTrip.Statement (.ldAtA16A a16) := decode_imm16 rfl a16
theorem RoundTrip.xorD8 (d8 : Byte) : RoundTrip.Statement (.xorD8 d8) := rfl
theorem RoundTrip.rst28 : RoundTrip.Statement .rst28 := rfl
theorem RoundTrip.ldhAAtA8 (a8 : Byte) : RoundTrip.Statement (.ldhAAtA8 a8) := rfl
theorem RoundTrip.popAf : RoundTrip.Statement .popAf := rfl
theorem RoundTrip.ldAAtC : RoundTrip.Statement .ldAAtC := rfl
theorem RoundTrip.di : RoundTrip.Statement .di := rfl
theorem RoundTrip.pushAf : RoundTrip.Statement .pushAf := rfl
theorem RoundTrip.orD8 (d8 : Byte) : RoundTrip.Statement (.orD8 d8) := rfl
theorem RoundTrip.rst30 : RoundTrip.Statement .rst30 := rfl
theorem RoundTrip.ldHlSpE8 (e8 : Byte) : RoundTrip.Statement (.ldHlSpE8 e8) := rfl
theorem RoundTrip.ldSpHl : RoundTrip.Statement .ldSpHl := rfl
theorem RoundTrip.ldAAtA16 (a16 : Word) : RoundTrip.Statement (.ldAAtA16 a16) := decode_imm16 rfl a16
theorem RoundTrip.ei : RoundTrip.Statement .ei := rfl
theorem RoundTrip.cpD8 (d8 : Byte) : RoundTrip.Statement (.cpD8 d8) := rfl
theorem RoundTrip.rst38 : RoundTrip.Statement .rst38 := rfl
theorem RoundTrip.prefixCb : RoundTrip.Statement .prefixCb := rfl
theorem RoundTrip.illegalD3 : RoundTrip.Statement .illegalD3 := rfl
theorem RoundTrip.illegalDB : RoundTrip.Statement .illegalDB := rfl
theorem RoundTrip.illegalDD : RoundTrip.Statement .illegalDD := rfl
theorem RoundTrip.illegalE3 : RoundTrip.Statement .illegalE3 := rfl
theorem RoundTrip.illegalE4 : RoundTrip.Statement .illegalE4 := rfl
theorem RoundTrip.illegalEB : RoundTrip.Statement .illegalEB := rfl
theorem RoundTrip.illegalEC : RoundTrip.Statement .illegalEC := rfl
theorem RoundTrip.illegalED : RoundTrip.Statement .illegalED := rfl
theorem RoundTrip.illegalF4 : RoundTrip.Statement .illegalF4 := rfl
theorem RoundTrip.illegalFC : RoundTrip.Statement .illegalFC := rfl
theorem RoundTrip.illegalFD : RoundTrip.Statement .illegalFD := rfl
theorem RoundTrip.rlcB : RoundTrip.Statement .rlcB := rfl
theorem RoundTrip.rlcC : RoundTrip.Statement .rlcC := rfl
theorem RoundTrip.rlcD : RoundTrip.Statement .rlcD := rfl
theorem RoundTrip.rlcE : RoundTrip.Statement .rlcE := rfl
theorem RoundTrip.rlcH : RoundTrip.Statement .rlcH := rfl
theorem RoundTrip.rlcL : RoundTrip.Statement .rlcL := rfl
theorem RoundTrip.rlcAtHl : RoundTrip.Statement .rlcAtHl := rfl
theorem RoundTrip.rlcA : RoundTrip.Statement .rlcA := rfl
theorem RoundTrip.rrcB : RoundTrip.Statement .rrcB := rfl
theorem RoundTrip.rrcC : RoundTrip.Statement .rrcC := rfl
theorem RoundTrip.rrcD : RoundTrip.Statement .rrcD := rfl
theorem RoundTrip.rrcE : RoundTrip.Statement .rrcE := rfl
theorem RoundTrip.rrcH : RoundTrip.Statement .rrcH := rfl
theorem RoundTrip.rrcL : RoundTrip.Statement .rrcL := rfl
theorem RoundTrip.rrcAtHl : RoundTrip.Statement .rrcAtHl := rfl
theorem RoundTrip.rrcA : RoundTrip.Statement .rrcA := rfl
theorem RoundTrip.rlB : RoundTrip.Statement .rlB := rfl
theorem RoundTrip.rlC : RoundTrip.Statement .rlC := rfl
theorem RoundTrip.rlD : RoundTrip.Statement .rlD := rfl
theorem RoundTrip.rlE : RoundTrip.Statement .rlE := rfl
theorem RoundTrip.rlH : RoundTrip.Statement .rlH := rfl
theorem RoundTrip.rlL : RoundTrip.Statement .rlL := rfl
theorem RoundTrip.rlAtHl : RoundTrip.Statement .rlAtHl := rfl
theorem RoundTrip.rlA : RoundTrip.Statement .rlA := rfl
theorem RoundTrip.rrB : RoundTrip.Statement .rrB := rfl
theorem RoundTrip.rrC : RoundTrip.Statement .rrC := rfl
theorem RoundTrip.rrD : RoundTrip.Statement .rrD := rfl
theorem RoundTrip.rrE : RoundTrip.Statement .rrE := rfl
theorem RoundTrip.rrH : RoundTrip.Statement .rrH := rfl
theorem RoundTrip.rrL : RoundTrip.Statement .rrL := rfl
theorem RoundTrip.rrAtHl : RoundTrip.Statement .rrAtHl := rfl
theorem RoundTrip.rrA : RoundTrip.Statement .rrA := rfl
theorem RoundTrip.slaB : RoundTrip.Statement .slaB := rfl
theorem RoundTrip.slaC : RoundTrip.Statement .slaC := rfl
theorem RoundTrip.slaD : RoundTrip.Statement .slaD := rfl
theorem RoundTrip.slaE : RoundTrip.Statement .slaE := rfl
theorem RoundTrip.slaH : RoundTrip.Statement .slaH := rfl
theorem RoundTrip.slaL : RoundTrip.Statement .slaL := rfl
theorem RoundTrip.slaAtHl : RoundTrip.Statement .slaAtHl := rfl
theorem RoundTrip.slaA : RoundTrip.Statement .slaA := rfl
theorem RoundTrip.sraB : RoundTrip.Statement .sraB := rfl
theorem RoundTrip.sraC : RoundTrip.Statement .sraC := rfl
theorem RoundTrip.sraD : RoundTrip.Statement .sraD := rfl
theorem RoundTrip.sraE : RoundTrip.Statement .sraE := rfl
theorem RoundTrip.sraH : RoundTrip.Statement .sraH := rfl
theorem RoundTrip.sraL : RoundTrip.Statement .sraL := rfl
theorem RoundTrip.sraAtHl : RoundTrip.Statement .sraAtHl := rfl
theorem RoundTrip.sraA : RoundTrip.Statement .sraA := rfl
theorem RoundTrip.swapB : RoundTrip.Statement .swapB := rfl
theorem RoundTrip.swapC : RoundTrip.Statement .swapC := rfl
theorem RoundTrip.swapD : RoundTrip.Statement .swapD := rfl
theorem RoundTrip.swapE : RoundTrip.Statement .swapE := rfl
theorem RoundTrip.swapH : RoundTrip.Statement .swapH := rfl
theorem RoundTrip.swapL : RoundTrip.Statement .swapL := rfl
theorem RoundTrip.swapAtHl : RoundTrip.Statement .swapAtHl := rfl
theorem RoundTrip.swapA : RoundTrip.Statement .swapA := rfl
theorem RoundTrip.srlB : RoundTrip.Statement .srlB := rfl
theorem RoundTrip.srlC : RoundTrip.Statement .srlC := rfl
theorem RoundTrip.srlD : RoundTrip.Statement .srlD := rfl
theorem RoundTrip.srlE : RoundTrip.Statement .srlE := rfl
theorem RoundTrip.srlH : RoundTrip.Statement .srlH := rfl
theorem RoundTrip.srlL : RoundTrip.Statement .srlL := rfl
theorem RoundTrip.srlAtHl : RoundTrip.Statement .srlAtHl := rfl
theorem RoundTrip.srlA : RoundTrip.Statement .srlA := rfl
theorem RoundTrip.bit0B : RoundTrip.Statement .bit0B := rfl
theorem RoundTrip.bit0C : RoundTrip.Statement .bit0C := rfl
theorem RoundTrip.bit0D : RoundTrip.Statement .bit0D := rfl
theorem RoundTrip.bit0E : RoundTrip.Statement .bit0E := rfl
theorem RoundTrip.bit0H : RoundTrip.Statement .bit0H := rfl
theorem RoundTrip.bit0L : RoundTrip.Statement .bit0L := rfl
theorem RoundTrip.bit0AtHl : RoundTrip.Statement .bit0AtHl := rfl
theorem RoundTrip.bit0A : RoundTrip.Statement .bit0A := rfl
theorem RoundTrip.bit1B : RoundTrip.Statement .bit1B := rfl
theorem RoundTrip.bit1C : RoundTrip.Statement .bit1C := rfl
theorem RoundTrip.bit1D : RoundTrip.Statement .bit1D := rfl
theorem RoundTrip.bit1E : RoundTrip.Statement .bit1E := rfl
theorem RoundTrip.bit1H : RoundTrip.Statement .bit1H := rfl
theorem RoundTrip.bit1L : RoundTrip.Statement .bit1L := rfl
theorem RoundTrip.bit1AtHl : RoundTrip.Statement .bit1AtHl := rfl
theorem RoundTrip.bit1A : RoundTrip.Statement .bit1A := rfl
theorem RoundTrip.bit2B : RoundTrip.Statement .bit2B := rfl
theorem RoundTrip.bit2C : RoundTrip.Statement .bit2C := rfl
theorem RoundTrip.bit2D : RoundTrip.Statement .bit2D := rfl
theorem RoundTrip.bit2E : RoundTrip.Statement .bit2E := rfl
theorem RoundTrip.bit2H : RoundTrip.Statement .bit2H := rfl
theorem RoundTrip.bit2L : RoundTrip.Statement .bit2L := rfl
theorem RoundTrip.bit2AtHl : RoundTrip.Statement .bit2AtHl := rfl
theorem RoundTrip.bit2A : RoundTrip.Statement .bit2A := rfl
theorem RoundTrip.bit3B : RoundTrip.Statement .bit3B := rfl
theorem RoundTrip.bit3C : RoundTrip.Statement .bit3C := rfl
theorem RoundTrip.bit3D : RoundTrip.Statement .bit3D := rfl
theorem RoundTrip.bit3E : RoundTrip.Statement .bit3E := rfl
theorem RoundTrip.bit3H : RoundTrip.Statement .bit3H := rfl
theorem RoundTrip.bit3L : RoundTrip.Statement .bit3L := rfl
theorem RoundTrip.bit3AtHl : RoundTrip.Statement .bit3AtHl := rfl
theorem RoundTrip.bit3A : RoundTrip.Statement .bit3A := rfl
theorem RoundTrip.bit4B : RoundTrip.Statement .bit4B := rfl
theorem RoundTrip.bit4C : RoundTrip.Statement .bit4C := rfl
theorem RoundTrip.bit4D : RoundTrip.Statement .bit4D := rfl
theorem RoundTrip.bit4E : RoundTrip.Statement .bit4E := rfl
theorem RoundTrip.bit4H : RoundTrip.Statement .bit4H := rfl
theorem RoundTrip.bit4L : RoundTrip.Statement .bit4L := rfl
theorem RoundTrip.bit4AtHl : RoundTrip.Statement .bit4AtHl := rfl
theorem RoundTrip.bit4A : RoundTrip.Statement .bit4A := rfl
theorem RoundTrip.bit5B : RoundTrip.Statement .bit5B := rfl
theorem RoundTrip.bit5C : RoundTrip.Statement .bit5C := rfl
theorem RoundTrip.bit5D : RoundTrip.Statement .bit5D := rfl
theorem RoundTrip.bit5E : RoundTrip.Statement .bit5E := rfl
theorem RoundTrip.bit5H : RoundTrip.Statement .bit5H := rfl
theorem RoundTrip.bit5L : RoundTrip.Statement .bit5L := rfl
theorem RoundTrip.bit5AtHl : RoundTrip.Statement .bit5AtHl := rfl
theorem RoundTrip.bit5A : RoundTrip.Statement .bit5A := rfl
theorem RoundTrip.bit6B : RoundTrip.Statement .bit6B := rfl
theorem RoundTrip.bit6C : RoundTrip.Statement .bit6C := rfl
theorem RoundTrip.bit6D : RoundTrip.Statement .bit6D := rfl
theorem RoundTrip.bit6E : RoundTrip.Statement .bit6E := rfl
theorem RoundTrip.bit6H : RoundTrip.Statement .bit6H := rfl
theorem RoundTrip.bit6L : RoundTrip.Statement .bit6L := rfl
theorem RoundTrip.bit6AtHl : RoundTrip.Statement .bit6AtHl := rfl
theorem RoundTrip.bit6A : RoundTrip.Statement .bit6A := rfl
theorem RoundTrip.bit7B : RoundTrip.Statement .bit7B := rfl
theorem RoundTrip.bit7C : RoundTrip.Statement .bit7C := rfl
theorem RoundTrip.bit7D : RoundTrip.Statement .bit7D := rfl
theorem RoundTrip.bit7E : RoundTrip.Statement .bit7E := rfl
theorem RoundTrip.bit7H : RoundTrip.Statement .bit7H := rfl
theorem RoundTrip.bit7L : RoundTrip.Statement .bit7L := rfl
theorem RoundTrip.bit7AtHl : RoundTrip.Statement .bit7AtHl := rfl
theorem RoundTrip.bit7A : RoundTrip.Statement .bit7A := rfl
theorem RoundTrip.res0B : RoundTrip.Statement .res0B := rfl
theorem RoundTrip.res0C : RoundTrip.Statement .res0C := rfl
theorem RoundTrip.res0D : RoundTrip.Statement .res0D := rfl
theorem RoundTrip.res0E : RoundTrip.Statement .res0E := rfl
theorem RoundTrip.res0H : RoundTrip.Statement .res0H := rfl
theorem RoundTrip.res0L : RoundTrip.Statement .res0L := rfl
theorem RoundTrip.res0AtHl : RoundTrip.Statement .res0AtHl := rfl
theorem RoundTrip.res0A : RoundTrip.Statement .res0A := rfl
theorem RoundTrip.res1B : RoundTrip.Statement .res1B := rfl
theorem RoundTrip.res1C : RoundTrip.Statement .res1C := rfl
theorem RoundTrip.res1D : RoundTrip.Statement .res1D := rfl
theorem RoundTrip.res1E : RoundTrip.Statement .res1E := rfl
theorem RoundTrip.res1H : RoundTrip.Statement .res1H := rfl
theorem RoundTrip.res1L : RoundTrip.Statement .res1L := rfl
theorem RoundTrip.res1AtHl : RoundTrip.Statement .res1AtHl := rfl
theorem RoundTrip.res1A : RoundTrip.Statement .res1A := rfl
theorem RoundTrip.res2B : RoundTrip.Statement .res2B := rfl
theorem RoundTrip.res2C : RoundTrip.Statement .res2C := rfl
theorem RoundTrip.res2D : RoundTrip.Statement .res2D := rfl
theorem RoundTrip.res2E : RoundTrip.Statement .res2E := rfl
theorem RoundTrip.res2H : RoundTrip.Statement .res2H := rfl
theorem RoundTrip.res2L : RoundTrip.Statement .res2L := rfl
theorem RoundTrip.res2AtHl : RoundTrip.Statement .res2AtHl := rfl
theorem RoundTrip.res2A : RoundTrip.Statement .res2A := rfl
theorem RoundTrip.res3B : RoundTrip.Statement .res3B := rfl
theorem RoundTrip.res3C : RoundTrip.Statement .res3C := rfl
theorem RoundTrip.res3D : RoundTrip.Statement .res3D := rfl
theorem RoundTrip.res3E : RoundTrip.Statement .res3E := rfl
theorem RoundTrip.res3H : RoundTrip.Statement .res3H := rfl
theorem RoundTrip.res3L : RoundTrip.Statement .res3L := rfl
theorem RoundTrip.res3AtHl : RoundTrip.Statement .res3AtHl := rfl
theorem RoundTrip.res3A : RoundTrip.Statement .res3A := rfl
theorem RoundTrip.res4B : RoundTrip.Statement .res4B := rfl
theorem RoundTrip.res4C : RoundTrip.Statement .res4C := rfl
theorem RoundTrip.res4D : RoundTrip.Statement .res4D := rfl
theorem RoundTrip.res4E : RoundTrip.Statement .res4E := rfl
theorem RoundTrip.res4H : RoundTrip.Statement .res4H := rfl
theorem RoundTrip.res4L : RoundTrip.Statement .res4L := rfl
theorem RoundTrip.res4AtHl : RoundTrip.Statement .res4AtHl := rfl
theorem RoundTrip.res4A : RoundTrip.Statement .res4A := rfl
theorem RoundTrip.res5B : RoundTrip.Statement .res5B := rfl
theorem RoundTrip.res5C : RoundTrip.Statement .res5C := rfl
theorem RoundTrip.res5D : RoundTrip.Statement .res5D := rfl
theorem RoundTrip.res5E : RoundTrip.Statement .res5E := rfl
theorem RoundTrip.res5H : RoundTrip.Statement .res5H := rfl
theorem RoundTrip.res5L : RoundTrip.Statement .res5L := rfl
theorem RoundTrip.res5AtHl : RoundTrip.Statement .res5AtHl := rfl
theorem RoundTrip.res5A : RoundTrip.Statement .res5A := rfl
theorem RoundTrip.res6B : RoundTrip.Statement .res6B := rfl
theorem RoundTrip.res6C : RoundTrip.Statement .res6C := rfl
theorem RoundTrip.res6D : RoundTrip.Statement .res6D := rfl
theorem RoundTrip.res6E : RoundTrip.Statement .res6E := rfl
theorem RoundTrip.res6H : RoundTrip.Statement .res6H := rfl
theorem RoundTrip.res6L : RoundTrip.Statement .res6L := rfl
theorem RoundTrip.res6AtHl : RoundTrip.Statement .res6AtHl := rfl
theorem RoundTrip.res6A : RoundTrip.Statement .res6A := rfl
theorem RoundTrip.res7B : RoundTrip.Statement .res7B := rfl
theorem RoundTrip.res7C : RoundTrip.Statement .res7C := rfl
theorem RoundTrip.res7D : RoundTrip.Statement .res7D := rfl
theorem RoundTrip.res7E : RoundTrip.Statement .res7E := rfl
theorem RoundTrip.res7H : RoundTrip.Statement .res7H := rfl
theorem RoundTrip.res7L : RoundTrip.Statement .res7L := rfl
theorem RoundTrip.res7AtHl : RoundTrip.Statement .res7AtHl := rfl
theorem RoundTrip.res7A : RoundTrip.Statement .res7A := rfl
theorem RoundTrip.set0B : RoundTrip.Statement .set0B := rfl
theorem RoundTrip.set0C : RoundTrip.Statement .set0C := rfl
theorem RoundTrip.set0D : RoundTrip.Statement .set0D := rfl
theorem RoundTrip.set0E : RoundTrip.Statement .set0E := rfl
theorem RoundTrip.set0H : RoundTrip.Statement .set0H := rfl
theorem RoundTrip.set0L : RoundTrip.Statement .set0L := rfl
theorem RoundTrip.set0AtHl : RoundTrip.Statement .set0AtHl := rfl
theorem RoundTrip.set0A : RoundTrip.Statement .set0A := rfl
theorem RoundTrip.set1B : RoundTrip.Statement .set1B := rfl
theorem RoundTrip.set1C : RoundTrip.Statement .set1C := rfl
theorem RoundTrip.set1D : RoundTrip.Statement .set1D := rfl
theorem RoundTrip.set1E : RoundTrip.Statement .set1E := rfl
theorem RoundTrip.set1H : RoundTrip.Statement .set1H := rfl
theorem RoundTrip.set1L : RoundTrip.Statement .set1L := rfl
theorem RoundTrip.set1AtHl : RoundTrip.Statement .set1AtHl := rfl
theorem RoundTrip.set1A : RoundTrip.Statement .set1A := rfl
theorem RoundTrip.set2B : RoundTrip.Statement .set2B := rfl
theorem RoundTrip.set2C : RoundTrip.Statement .set2C := rfl
theorem RoundTrip.set2D : RoundTrip.Statement .set2D := rfl
theorem RoundTrip.set2E : RoundTrip.Statement .set2E := rfl
theorem RoundTrip.set2H : RoundTrip.Statement .set2H := rfl
theorem RoundTrip.set2L : RoundTrip.Statement .set2L := rfl
theorem RoundTrip.set2AtHl : RoundTrip.Statement .set2AtHl := rfl
theorem RoundTrip.set2A : RoundTrip.Statement .set2A := rfl
theorem RoundTrip.set3B : RoundTrip.Statement .set3B := rfl
theorem RoundTrip.set3C : RoundTrip.Statement .set3C := rfl
theorem RoundTrip.set3D : RoundTrip.Statement .set3D := rfl
theorem RoundTrip.set3E : RoundTrip.Statement .set3E := rfl
theorem RoundTrip.set3H : RoundTrip.Statement .set3H := rfl
theorem RoundTrip.set3L : RoundTrip.Statement .set3L := rfl
theorem RoundTrip.set3AtHl : RoundTrip.Statement .set3AtHl := rfl
theorem RoundTrip.set3A : RoundTrip.Statement .set3A := rfl
theorem RoundTrip.set4B : RoundTrip.Statement .set4B := rfl
theorem RoundTrip.set4C : RoundTrip.Statement .set4C := rfl
theorem RoundTrip.set4D : RoundTrip.Statement .set4D := rfl
theorem RoundTrip.set4E : RoundTrip.Statement .set4E := rfl
theorem RoundTrip.set4H : RoundTrip.Statement .set4H := rfl
theorem RoundTrip.set4L : RoundTrip.Statement .set4L := rfl
theorem RoundTrip.set4AtHl : RoundTrip.Statement .set4AtHl := rfl
theorem RoundTrip.set4A : RoundTrip.Statement .set4A := rfl
theorem RoundTrip.set5B : RoundTrip.Statement .set5B := rfl
theorem RoundTrip.set5C : RoundTrip.Statement .set5C := rfl
theorem RoundTrip.set5D : RoundTrip.Statement .set5D := rfl
theorem RoundTrip.set5E : RoundTrip.Statement .set5E := rfl
theorem RoundTrip.set5H : RoundTrip.Statement .set5H := rfl
theorem RoundTrip.set5L : RoundTrip.Statement .set5L := rfl
theorem RoundTrip.set5AtHl : RoundTrip.Statement .set5AtHl := rfl
theorem RoundTrip.set5A : RoundTrip.Statement .set5A := rfl
theorem RoundTrip.set6B : RoundTrip.Statement .set6B := rfl
theorem RoundTrip.set6C : RoundTrip.Statement .set6C := rfl
theorem RoundTrip.set6D : RoundTrip.Statement .set6D := rfl
theorem RoundTrip.set6E : RoundTrip.Statement .set6E := rfl
theorem RoundTrip.set6H : RoundTrip.Statement .set6H := rfl
theorem RoundTrip.set6L : RoundTrip.Statement .set6L := rfl
theorem RoundTrip.set6AtHl : RoundTrip.Statement .set6AtHl := rfl
theorem RoundTrip.set6A : RoundTrip.Statement .set6A := rfl
theorem RoundTrip.set7B : RoundTrip.Statement .set7B := rfl
theorem RoundTrip.set7C : RoundTrip.Statement .set7C := rfl
theorem RoundTrip.set7D : RoundTrip.Statement .set7D := rfl
theorem RoundTrip.set7E : RoundTrip.Statement .set7E := rfl
theorem RoundTrip.set7H : RoundTrip.Statement .set7H := rfl
theorem RoundTrip.set7L : RoundTrip.Statement .set7L := rfl
theorem RoundTrip.set7AtHl : RoundTrip.Statement .set7AtHl := rfl
theorem RoundTrip.set7A : RoundTrip.Statement .set7A := rfl

end Sys2Proof.Laws
end

