-- ==== Sys2Proof/Laws/Decode.lean ====
section
/-! SUPPORT. What the encoder writes and the decoder reads, said once for every row: the cell of the opcode map that
stands behind an instruction's bytes, and the bytes behind every cell. Later proofs cite these two lemmas and
never enumerate the rows or the opcodes again. -/

namespace Sys2Proof.Laws

open Sys2Proof.Machine

/-- The bytes of every row, by the format of its cell (R80, R93, R94). -/
theorem encode_cell (i : Instr) :
    i = .prefixCb ∨
    (∃ op, encode i = [op] ∧ baseCell op = some (.whole i)) ∨
    (∃ op f x, encode i = [op, x] ∧ baseCell op = some (.imm8 f) ∧ f x = i) ∨
    (∃ c, encode i = [Config.escapeByte, c] ∧ extCell c = some i) ∨
    (∃ op f v, encode i = op :: operand16 v ∧ baseCell op = some (.imm16 f) ∧ f v = i) := by
  cases i <;> first
    | exact .inr (.inl ⟨_, rfl, rfl⟩)
    | exact .inr (.inr (.inr (.inl ⟨_, rfl, rfl⟩)))
    | exact .inr (.inr (.inl ⟨_, _, _, rfl, rfl, rfl⟩))
    | exact .inr (.inr (.inr (.inr ⟨_, _, _, rfl, rfl, rfl⟩)))
    | exact .inl rfl

/-- What a cell of the base map says of the bytes of its instructions (R81, R93). -/
def CellEncodes (op : Byte) : Option BaseCell → Prop
  | none => False
  | some (.whole i) => encode i = [op]
  | some (.imm8 f) => ∀ x, encode (f x) = [op, x]
  | some (.imm16 f) => ∀ v, encode (f v) = op :: operand16 v
  | some .sub => op = Config.escapeByte

/-- The cells of a run of opcodes from `n` on, each against its own opcode. -/
def CellsEncode : Nat → List BaseCell → Prop
  | _, [] => True
  | n, cell :: rest => CellEncodes (BitVec.ofNat 8 n) (some cell) ∧ CellsEncode (n + 1) rest

/-- The sub-opcode cells of a run from `n` on, each against its own sub-opcode. -/
def ExtEncode : Nat → List Instr → Prop
  | _, [] => True
  | n, i :: rest => encode i = [Config.escapeByte, BitVec.ofNat 8 n] ∧ ExtEncode (n + 1) rest

theorem CellsEncode.get :
    ∀ {n : Nat} {cells : List BaseCell}, CellsEncode n cells → ∀ k (hk : k < cells.length),
      CellEncodes (BitVec.ofNat 8 (n + k)) (some cells[k])
  | _, [], _, _, hk => absurd hk (Nat.not_lt_zero _)
  | _, _ :: _, h, 0, _ => h.1
  | n, _ :: rest, h, k + 1, hk => by
    have := CellsEncode.get h.2 k (Nat.lt_of_succ_lt_succ hk)
    rwa [Nat.add_right_comm, Nat.add_assoc] at this

theorem ExtEncode.get :
    ∀ {n : Nat} {cells : List Instr}, ExtEncode n cells → ∀ k (hk : k < cells.length),
      encode cells[k] = [Config.escapeByte, BitVec.ofNat 8 (n + k)]
  | _, [], _, _, hk => absurd hk (Nat.not_lt_zero _)
  | _, _ :: _, h, 0, _ => h.1
  | n, _ :: rest, h, k + 1, hk => by
    have := ExtEncode.get h.2 k (Nat.lt_of_succ_lt_succ hk)
    rwa [Nat.add_right_comm, Nat.add_assoc] at this

theorem baseRow0_encodes : CellsEncode 0 baseRow0 := by
  refine ⟨?_, ?_, ?_, ?_, ?_, ?_, ?_, ?_, ?_, ?_, ?_, ?_, ?_, ?_, ?_, ?_, trivial⟩ <;>
    first | rfl | (intro x; rfl)

theorem extRow0_encodes : ExtEncode 0 extRow0 :=
  ⟨rfl, rfl, rfl, rfl, rfl, rfl, rfl, rfl, rfl, rfl, rfl, rfl, rfl, rfl, rfl, rfl, trivial⟩

theorem baseRow1_encodes : CellsEncode 16 baseRow1 := by
  refine ⟨?_, ?_, ?_, ?_, ?_, ?_, ?_, ?_, ?_, ?_, ?_, ?_, ?_, ?_, ?_, ?_, trivial⟩ <;>
    first | rfl | (intro x; rfl)

theorem extRow1_encodes : ExtEncode 16 extRow1 :=
  ⟨rfl, rfl, rfl, rfl, rfl, rfl, rfl, rfl, rfl, rfl, rfl, rfl, rfl, rfl, rfl, rfl, trivial⟩

theorem baseRow2_encodes : CellsEncode 32 baseRow2 := by
  refine ⟨?_, ?_, ?_, ?_, ?_, ?_, ?_, ?_, ?_, ?_, ?_, ?_, ?_, ?_, ?_, ?_, trivial⟩ <;>
    first | rfl | (intro x; rfl)

theorem extRow2_encodes : ExtEncode 32 extRow2 :=
  ⟨rfl, rfl, rfl, rfl, rfl, rfl, rfl, rfl, rfl, rfl, rfl, rfl, rfl, rfl, rfl, rfl, trivial⟩

theorem baseRow3_encodes : CellsEncode 48 baseRow3 := by
  refine ⟨?_, ?_, ?_, ?_, ?_, ?_, ?_, ?_, ?_, ?_, ?_, ?_, ?_, ?_, ?_, ?_, trivial⟩ <;>
    first | rfl | (intro x; rfl)

theorem extRow3_encodes : ExtEncode 48 extRow3 :=
  ⟨rfl, rfl, rfl, rfl, rfl, rfl, rfl, rfl, rfl, rfl, rfl, rfl, rfl, rfl, rfl, rfl, trivial⟩

theorem baseRow4_encodes : CellsEncode 64 baseRow4 :=
  ⟨rfl, rfl, rfl, rfl, rfl, rfl, rfl, rfl, rfl, rfl, rfl, rfl, rfl, rfl, rfl, rfl, trivial⟩

theorem extRow4_encodes : ExtEncode 64 extRow4 :=
  ⟨rfl, rfl, rfl, rfl, rfl, rfl, rfl, rfl, rfl, rfl, rfl, rfl, rfl, rfl, rfl, rfl, trivial⟩

theorem baseRow5_encodes : CellsEncode 80 baseRow5 :=
  ⟨rfl, rfl, rfl, rfl, rfl, rfl, rfl, rfl, rfl, rfl, rfl, rfl, rfl, rfl, rfl, rfl, trivial⟩

theorem extRow5_encodes : ExtEncode 80 extRow5 :=
  ⟨rfl, rfl, rfl, rfl, rfl, rfl, rfl, rfl, rfl, rfl, rfl, rfl, rfl, rfl, rfl, rfl, trivial⟩

theorem baseRow6_encodes : CellsEncode 96 baseRow6 :=
  ⟨rfl, rfl, rfl, rfl, rfl, rfl, rfl, rfl, rfl, rfl, rfl, rfl, rfl, rfl, rfl, rfl, trivial⟩

theorem extRow6_encodes : ExtEncode 96 extRow6 :=
  ⟨rfl, rfl, rfl, rfl, rfl, rfl, rfl, rfl, rfl, rfl, rfl, rfl, rfl, rfl, rfl, rfl, trivial⟩

theorem baseRow7_encodes : CellsEncode 112 baseRow7 :=
  ⟨rfl, rfl, rfl, rfl, rfl, rfl, rfl, rfl, rfl, rfl, rfl, rfl, rfl, rfl, rfl, rfl, trivial⟩

theorem extRow7_encodes : ExtEncode 112 extRow7 :=
  ⟨rfl, rfl, rfl, rfl, rfl, rfl, rfl, rfl, rfl, rfl, rfl, rfl, rfl, rfl, rfl, rfl, trivial⟩

theorem baseRow8_encodes : CellsEncode 128 baseRow8 :=
  ⟨rfl, rfl, rfl, rfl, rfl, rfl, rfl, rfl, rfl, rfl, rfl, rfl, rfl, rfl, rfl, rfl, trivial⟩

theorem extRow8_encodes : ExtEncode 128 extRow8 :=
  ⟨rfl, rfl, rfl, rfl, rfl, rfl, rfl, rfl, rfl, rfl, rfl, rfl, rfl, rfl, rfl, rfl, trivial⟩

theorem baseRow9_encodes : CellsEncode 144 baseRow9 :=
  ⟨rfl, rfl, rfl, rfl, rfl, rfl, rfl, rfl, rfl, rfl, rfl, rfl, rfl, rfl, rfl, rfl, trivial⟩

theorem extRow9_encodes : ExtEncode 144 extRow9 :=
  ⟨rfl, rfl, rfl, rfl, rfl, rfl, rfl, rfl, rfl, rfl, rfl, rfl, rfl, rfl, rfl, rfl, trivial⟩

theorem baseRowA_encodes : CellsEncode 160 baseRowA :=
  ⟨rfl, rfl, rfl, rfl, rfl, rfl, rfl, rfl, rfl, rfl, rfl, rfl, rfl, rfl, rfl, rfl, trivial⟩

theorem extRowA_encodes : ExtEncode 160 extRowA :=
  ⟨rfl, rfl, rfl, rfl, rfl, rfl, rfl, rfl, rfl, rfl, rfl, rfl, rfl, rfl, rfl, rfl, trivial⟩

theorem baseRowB_encodes : CellsEncode 176 baseRowB :=
  ⟨rfl, rfl, rfl, rfl, rfl, rfl, rfl, rfl, rfl, rfl, rfl, rfl, rfl, rfl, rfl, rfl, trivial⟩

theorem extRowB_encodes : ExtEncode 176 extRowB :=
  ⟨rfl, rfl, rfl, rfl, rfl, rfl, rfl, rfl, rfl, rfl, rfl, rfl, rfl, rfl, rfl, rfl, trivial⟩

theorem baseRowC_encodes : CellsEncode 192 baseRowC := by
  refine ⟨?_, ?_, ?_, ?_, ?_, ?_, ?_, ?_, ?_, ?_, ?_, ?_, ?_, ?_, ?_, ?_, trivial⟩ <;>
    first | rfl | (intro x; rfl)

theorem extRowC_encodes : ExtEncode 192 extRowC :=
  ⟨rfl, rfl, rfl, rfl, rfl, rfl, rfl, rfl, rfl, rfl, rfl, rfl, rfl, rfl, rfl, rfl, trivial⟩

theorem baseRowD_encodes : CellsEncode 208 baseRowD := by
  refine ⟨?_, ?_, ?_, ?_, ?_, ?_, ?_, ?_, ?_, ?_, ?_, ?_, ?_, ?_, ?_, ?_, trivial⟩ <;>
    first | rfl | (intro x; rfl)

theorem extRowD_encodes : ExtEncode 208 extRowD :=
  ⟨rfl, rfl, rfl, rfl, rfl, rfl, rfl, rfl, rfl, rfl, rfl, rfl, rfl, rfl, rfl, rfl, trivial⟩

theorem baseRowE_encodes : CellsEncode 224 baseRowE := by
  refine ⟨?_, ?_, ?_, ?_, ?_, ?_, ?_, ?_, ?_, ?_, ?_, ?_, ?_, ?_, ?_, ?_, trivial⟩ <;>
    first | rfl | (intro x; rfl)

theorem extRowE_encodes : ExtEncode 224 extRowE :=
  ⟨rfl, rfl, rfl, rfl, rfl, rfl, rfl, rfl, rfl, rfl, rfl, rfl, rfl, rfl, rfl, rfl, trivial⟩

theorem baseRowF_encodes : CellsEncode 240 baseRowF := by
  refine ⟨?_, ?_, ?_, ?_, ?_, ?_, ?_, ?_, ?_, ?_, ?_, ?_, ?_, ?_, ?_, ?_, trivial⟩ <;>
    first | rfl | (intro x; rfl)

theorem extRowF_encodes : ExtEncode 240 extRowF :=
  ⟨rfl, rfl, rfl, rfl, rfl, rfl, rfl, rfl, rfl, rfl, rfl, rfl, rfl, rfl, rfl, rfl, trivial⟩

/-- Every row of the base map holds sixteen cells, each against its own opcode (R93, R98). -/
theorem baseMap_row (r : Nat) (hr : r < 16) :
    ∃ row, baseMap[r]? = some row ∧ row.length = 16 ∧ CellsEncode (16 * r) row := by
  match r, hr with
  | 0, _ => exact ⟨_, rfl, rfl, baseRow0_encodes⟩
  | 1, _ => exact ⟨_, rfl, rfl, baseRow1_encodes⟩
  | 2, _ => exact ⟨_, rfl, rfl, baseRow2_encodes⟩
  | 3, _ => exact ⟨_, rfl, rfl, baseRow3_encodes⟩
  | 4, _ => exact ⟨_, rfl, rfl, baseRow4_encodes⟩
  | 5, _ => exact ⟨_, rfl, rfl, baseRow5_encodes⟩
  | 6, _ => exact ⟨_, rfl, rfl, baseRow6_encodes⟩
  | 7, _ => exact ⟨_, rfl, rfl, baseRow7_encodes⟩
  | 8, _ => exact ⟨_, rfl, rfl, baseRow8_encodes⟩
  | 9, _ => exact ⟨_, rfl, rfl, baseRow9_encodes⟩
  | 10, _ => exact ⟨_, rfl, rfl, baseRowA_encodes⟩
  | 11, _ => exact ⟨_, rfl, rfl, baseRowB_encodes⟩
  | 12, _ => exact ⟨_, rfl, rfl, baseRowC_encodes⟩
  | 13, _ => exact ⟨_, rfl, rfl, baseRowD_encodes⟩
  | 14, _ => exact ⟨_, rfl, rfl, baseRowE_encodes⟩
  | 15, _ => exact ⟨_, rfl, rfl, baseRowF_encodes⟩
  | n + 16, h => omega

/-- Every row of the extended map holds sixteen cells, each against its own sub-opcode (R94, R98). -/
theorem extMap_row (r : Nat) (hr : r < 16) :
    ∃ row, extMap[r]? = some row ∧ row.length = 16 ∧ ExtEncode (16 * r) row := by
  match r, hr with
  | 0, _ => exact ⟨_, rfl, rfl, extRow0_encodes⟩
  | 1, _ => exact ⟨_, rfl, rfl, extRow1_encodes⟩
  | 2, _ => exact ⟨_, rfl, rfl, extRow2_encodes⟩
  | 3, _ => exact ⟨_, rfl, rfl, extRow3_encodes⟩
  | 4, _ => exact ⟨_, rfl, rfl, extRow4_encodes⟩
  | 5, _ => exact ⟨_, rfl, rfl, extRow5_encodes⟩
  | 6, _ => exact ⟨_, rfl, rfl, extRow6_encodes⟩
  | 7, _ => exact ⟨_, rfl, rfl, extRow7_encodes⟩
  | 8, _ => exact ⟨_, rfl, rfl, extRow8_encodes⟩
  | 9, _ => exact ⟨_, rfl, rfl, extRow9_encodes⟩
  | 10, _ => exact ⟨_, rfl, rfl, extRowA_encodes⟩
  | 11, _ => exact ⟨_, rfl, rfl, extRowB_encodes⟩
  | 12, _ => exact ⟨_, rfl, rfl, extRowC_encodes⟩
  | 13, _ => exact ⟨_, rfl, rfl, extRowD_encodes⟩
  | 14, _ => exact ⟨_, rfl, rfl, extRowE_encodes⟩
  | 15, _ => exact ⟨_, rfl, rfl, extRowF_encodes⟩
  | n + 16, h => omega

/-- An opcode byte is 16 times its high nibble plus its low nibble (R98). -/
theorem byte_of_nibbles (op : Byte) :
    BitVec.ofNat 8 (16 * (op.toNat / 16) + op.toNat % 16) = op := by
  rw [Nat.div_add_mod]
  simp

/-- Every opcode has a cell, and its instructions encode to that opcode (R93, R133). -/
theorem baseCell_encodes (op : Byte) : CellEncodes op (baseCell op) := by
  have hop := op.isLt
  obtain ⟨row, hrow, hlen, henc⟩ := baseMap_row (op.toNat / 16) (by omega)
  have hk : op.toNat % 16 < row.length := by omega
  have hcell : baseCell op = some row[op.toNat % 16] := by
    unfold baseCell
    rw [hrow, Option.bind_some, List.getElem?_eq_getElem hk]
  have := henc.get (op.toNat % 16) hk
  rwa [byte_of_nibbles, ← hcell] at this

/-- Every sub-opcode has a cell, and its instruction encodes to it (R94, R100). -/
theorem extCell_encodes (c : Byte) :
    ∃ i, extCell c = some i ∧ encode i = [Config.escapeByte, c] := by
  have hc := c.isLt
  obtain ⟨row, hrow, hlen, henc⟩ := extMap_row (c.toNat / 16) (by omega)
  have hk : c.toNat % 16 < row.length := by omega
  refine ⟨row[c.toNat % 16], ?_, ?_⟩
  · unfold extCell
    rw [hrow, Option.bind_some, List.getElem?_eq_getElem hk]
  · have := henc.get (c.toNat % 16) hk
    rwa [byte_of_nibbles] at this

/-- The escape byte's own cell (R92). -/
theorem baseCell_escape : baseCell Config.escapeByte = some .sub := rfl

/-- Decoding after the escape byte (R92, R124). -/
theorem decode_escape (rest : List Byte) :
    decode (Config.escapeByte :: rest) = decodeExtended rest := rfl

/-- The decoder reads back every row from its own bytes. -/
theorem decode_encode (i : Instr) : decode (encode i) = .ok (i, []) := by
  obtain rfl | ⟨op, he, hc⟩ | ⟨op, f, x, he, hc, hf⟩ | ⟨c, he, hc⟩ | ⟨op, f, v, he, hc, hf⟩ :=
    encode_cell i
  · rfl
  · simp only [he, decode, hc]
  · simp only [he, decode, hc, decodeImm8, hf]
  · simp only [he, decode_escape, decodeExtended, hc]
  · rw [he, decode_imm16 hc, hf]

/-- The two facts of `HasBytes` from the bytes of a form. -/
theorem bytes_of_form {i : Instr} {f : Form} (h : i.form = f) :
    encode i = f.bytes ∧ decode f.bytes = .ok (i, []) := by
  have he : encode i = f.bytes := by rw [encode, h]
  exact ⟨he, he ▸ decode_encode i⟩

/-- The five ways a decoding succeeds, by the format of the first byte's cell (R80, R92 to R94). -/
theorem decode_shape {bytes : List Byte} {i : Instr} {rest : List Byte} (h : decode bytes = .ok (i, rest)) :
    (∃ op, bytes = op :: rest ∧ baseCell op = some (.whole i)) ∨
    (∃ op f x, bytes = op :: x :: rest ∧ baseCell op = some (.imm8 f) ∧ i = f x) ∨
    (∃ op f lo hi, bytes = op :: lo :: hi :: rest ∧ baseCell op = some (.imm16 f) ∧ i = f (joinBytes hi lo)) ∨
    (∃ c, bytes = Config.escapeByte :: c :: rest ∧ extCell c = some i) ∨
    (bytes = [Config.escapeByte] ∧ rest = [] ∧ i = .prefixCb) := by
  match bytes with
  | [] => simp [decode] at h
  | op :: more =>
    simp only [decode] at h
    split at h
    · cases h
    · rename_i j hc
      simp only [Except.ok.injEq, Prod.mk.injEq] at h
      obtain ⟨rfl, rfl⟩ := h
      exact .inl ⟨op, rfl, hc⟩
    · rename_i f hc
      match more with
      | [] => simp [decodeImm8] at h
      | x :: r =>
        simp only [decodeImm8, Except.ok.injEq, Prod.mk.injEq] at h
        obtain ⟨rfl, rfl⟩ := h
        exact .inr (.inl ⟨op, f, x, rfl, hc, rfl⟩)
    · rename_i f hc
      match more with
      | [] => simp [decodeImm16] at h
      | [_] => simp [decodeImm16] at h
      | lo :: hi :: r =>
        simp only [decodeImm16, Except.ok.injEq, Prod.mk.injEq] at h
        obtain ⟨rfl, rfl⟩ := h
        exact .inr (.inr (.inl ⟨op, f, lo, hi, rfl, hc, rfl⟩))
    · rename_i hc
      have hop : op = Config.escapeByte := by
        have := baseCell_encodes op
        rw [hc] at this
        exact this
      subst hop
      match more with
      | [] =>
        simp only [decodeExtended, Except.ok.injEq, Prod.mk.injEq] at h
        obtain ⟨rfl, rfl⟩ := h
        exact .inr (.inr (.inr (.inr ⟨rfl, rfl, rfl⟩)))
      | c :: r =>
        obtain ⟨j, hj, _⟩ := extCell_encodes c
        simp only [decodeExtended, hj, Except.ok.injEq, Prod.mk.injEq] at h
        obtain ⟨rfl, rfl⟩ := h
        exact .inr (.inr (.inr (.inl ⟨c, rfl, hj⟩)))

end Sys2Proof.Laws
end

