-- ==== Sys2Proof/Laws/Exec.lean ====
section
/-! SUPPORT. What every instruction does, said once by its form: `exec i` is `formRule i.form`, so a proof about an
instruction splits on the sixty forms and never on the 512 rows. -/

namespace Sys2Proof.Machine

/-- The shared operation behind an instruction's meaning, by its form. -/
def formRule : Form → State → Result
  | .nop, s => retire 1 s
  | .stop _, s => retire 2 { s with mode := .stopped }
  | .halt, s => retire 1 { s with mode := .halted }
  | .di, s => retire 1 { s with ime := false }
  | .ei, s => retire 1 { s with ime := true }
  | .ld dst src, s => loadLoc dst src s
  | .ldImm dst d8, s => loadImm dst d8 s
  | .ldLoad src, s => loadAcc src s
  | .ldStore dst, s => storeAcc dst s
  | .ldAbsLoad a16, s => loadAbs a16 s
  | .ldAbsStore a16, s => storeAbs a16 s
  | .ldhLoad a8, s => loadHigh a8 s
  | .ldhStore a8, s => storeHigh a8 s
  | .ldPair rp d16, s => loadPair rp d16 s
  | .ldAbsSp a16, s => storeSp a16 s
  | .ldSpHl, s => loadSpHl s
  | .ldHlSp e8, s => loadHlSp e8 s
  | .push rp2, s => pushPair rp2 s
  | .pop rp2, s => popPair rp2 s
  | .alu op src, s => aluLoc op src s
  | .aluImm op d8, s => aluImm op d8 s
  | .inc dst, s => incLoc dst s
  | .dec dst, s => decLoc dst s
  | .daa, s => adjustAcc daa8 s
  | .cpl, s => adjustAcc cpl8 s
  | .scf, s => retire 1 (s.setFlags (scfFlags s.flags))
  | .ccf, s => retire 1 (s.setFlags (ccfFlags s.flags))
  | .incPair rp, s => incPair rp s
  | .decPair rp, s => decPair rp s
  | .addHl rp, s => addHl rp s
  | .addSp e8, s => addSp e8 s
  | .rlca, s => rotateAcc (rotLC s.a) s
  | .rrca, s => rotateAcc (rotRC s.a) s
  | .rla, s => rotateAcc (rotL s.a s.flags.c) s
  | .rra, s => rotateAcc (rotR s.a s.flags.c) s
  | .rot op dst, s => rotLoc op dst s
  | .bit b src, s => bitLoc b src s
  | .res b dst, s => resLoc b dst s
  | .set b dst, s => setBitLoc b dst s
  | .jp a16, s => jumpTo a16 s
  | .jpIf cc a16, s => jumpIf cc a16 s
  | .jpHl, s => jumpTo s.hl s
  | .jr e8, s => jumpTo (s.relTarget e8) s
  | .jrIf cc e8, s => jumpRelIf cc e8 s
  | .call a16, s => .next (s.callTo 3 a16)
  | .callIf cc a16, s => callIf cc a16 s
  | .ret, s => .next s.returnTo
  | .retIf cc, s => retIf cc s
  | .reti, s => .next s.returnFromInterrupt
  | .rst y, s => .next (s.callTo 1 (rstTarget y))
  | .illegal op, s => illegalOpcode op s
  | .escape, s => escapeRule s

/-- Every row's meaning is the rule of its form. -/
theorem exec_eq_formRule (i : Instr) (s : State) : exec i s = formRule i.form s := by
  cases i <;> rfl

/-- The rule of a known form. -/
theorem exec_of_form {i : Instr} {f : Form} (h : i.form = f) (s : State) : exec i s = formRule f s := by
  rw [exec_eq_formRule, h]

end Sys2Proof.Machine
end

