-- ==== Sys2Proof/Laws/Memory.lean ====
section
/-! SUPPORT. The laws of the memory list (R50 to R53): a read after a write, what a write leaves alone, that every
write keeps the canonical form, and that the canonical form makes equal memories equal lists. -/

namespace Sys2Proof.Machine

@[simp] theorem Memory.read_nil (a : Nat) : Memory.read [] a = Config.memoryReset := rfl

theorem Memory.read_cons (k : Nat) (v : Byte) (rest : Memory) (a : Nat) :
    Memory.read ((k, v) :: rest) a = if a = k then v else Memory.read rest a := rfl

theorem Memory.wfFrom_cons (low k : Nat) (v : Byte) (rest : Memory) :
    Memory.wfFrom low ((k, v) :: rest) = true ↔
      low ≤ k ∧ k ≤ Config.topAddress ∧ v ≠ Config.memoryReset ∧ Memory.wfFrom (k + 1) rest = true := by
  simp [Memory.wfFrom, and_assoc]

theorem Memory.wfFrom_mono {low low' : Nat} (h : low' ≤ low) :
    ∀ {m : Memory}, Memory.wfFrom low m = true → Memory.wfFrom low' m = true
  | [], _ => rfl
  | (_, _) :: _, hm => by
    rw [Memory.wfFrom_cons] at hm ⊢
    exact ⟨Nat.le_trans h hm.1, hm.2⟩

/-- Below the first listed address, a canonical memory reads as at power-on. -/
theorem Memory.read_below {low : Nat} :
    ∀ {m : Memory}, Memory.wfFrom low m = true → ∀ {a : Nat}, a < low → m.read a = Config.memoryReset
  | [], _, _, _ => rfl
  | (k, v) :: rest, hm, a, ha => by
    rw [Memory.wfFrom_cons] at hm
    rw [Memory.read_cons, if_neg (by omega)]
    exact Memory.read_below hm.2.2.2 (by omega)

/-- A write leaves every other address as it was, in any list. -/
theorem Memory.read_write_ne {a b : Nat} (v : Byte) (hab : b ≠ a) :
    ∀ m : Memory, (m.write a v).read b = m.read b
  | [] => by
    unfold Memory.write
    split <;> simp [Memory.read_cons, hab]
  | (k, w) :: rest => by
    have ih := Memory.read_write_ne v hab rest
    unfold Memory.write
    split
    · split <;> simp [Memory.read_cons, hab]
    · split
      · rename_i hk
        subst hk
        split <;> simp [Memory.read_cons, hab]
      · simp only [Memory.read_cons, ih]

/-- A read after a write to the same address gives the byte written (R52). -/
theorem Memory.read_write_self (a : Nat) (v : Byte) :
    ∀ {m : Memory} {low : Nat}, Memory.wfFrom low m = true → (m.write a v).read a = v
  | [], _, _ => by
    unfold Memory.write
    split
    · rename_i h; simp [h]
    · simp [Memory.read_cons]
  | (k, w) :: rest, low, hm => by
    rw [Memory.wfFrom_cons] at hm
    unfold Memory.write
    split
    · split
      · rename_i hlt hv
        rw [Memory.read_cons, if_neg (by omega), hv]
        exact Memory.read_below hm.2.2.2 (by omega)
      · simp [Memory.read_cons]
    · split
      · rename_i hk
        split
        · rename_i hv
          rw [hv]
          exact Memory.read_below hm.2.2.2 (by omega)
        · simp [Memory.read_cons]
      · rename_i hk
        rw [Memory.read_cons, if_neg hk]
        exact Memory.read_write_self a v hm.2.2.2

/-- A write inside the address space keeps the canonical form. -/
theorem Memory.wfFrom_write (a : Nat) (v : Byte) (ha : a ≤ Config.topAddress) :
    ∀ {m : Memory} {low : Nat}, low ≤ a → Memory.wfFrom low m = true →
      Memory.wfFrom low (m.write a v) = true
  | [], low, hl, _ => by
    unfold Memory.write
    split
    · rfl
    · rename_i hv
      rw [Memory.wfFrom_cons]
      exact ⟨hl, ha, hv, rfl⟩
  | (k, w) :: rest, low, hl, hm => by
    have hm' := hm
    rw [Memory.wfFrom_cons] at hm
    obtain ⟨h1, h2, h3, h4⟩ := hm
    unfold Memory.write
    split
    · split
      · exact hm'
      · rename_i hlt hv
        rw [Memory.wfFrom_cons, Memory.wfFrom_cons]
        exact ⟨hl, ha, hv, by omega, h2, h3, h4⟩
    · split
      · rename_i hk
        subst hk
        split
        · exact Memory.wfFrom_mono (by omega) h4
        · rename_i hv
          rw [Memory.wfFrom_cons]
          exact ⟨hl, ha, hv, h4⟩
      · rw [Memory.wfFrom_cons]
        exact ⟨h1, h2, h3, Memory.wfFrom_write a v ha (by omega) h4⟩

/-- Every memory operation keeps the canonical form: `Memory.write` is the only one that changes the list. -/
theorem Memory.wf_write {m : Memory} (a : Nat) (v : Byte) (ha : a ≤ Config.topAddress) (hm : m.wf = true) :
    (m.write a v).wf = true :=
  Memory.wfFrom_write a v ha (Nat.zero_le a) hm

theorem Word.toNat_le_top (a : Word) : a.toNat ≤ Config.topAddress := by
  have h := a.isLt
  unfold Config.topAddress
  omega

theorem State.write_wf {s : State} (a : Word) (v : Byte) (hm : s.mem.wf = true) :
    (s.write a v).mem.wf = true :=
  Memory.wf_write _ v (Word.toNat_le_top a) hm

/-- The memory of the power-on state is in canonical form (R363). -/
theorem State.reset_wf : State.reset.mem.wf = true := rfl

theorem State.read_write_self {s : State} (a : Word) (v : Byte) (hm : s.mem.wf = true) :
    (s.write a v).read a = v :=
  Memory.read_write_self a.toNat v hm

theorem State.read_write_ne (s : State) {a q : Word} (v : Byte) (h : q ≠ a) :
    (s.write a v).read q = s.read q :=
  Memory.read_write_ne v (fun hn => h (BitVec.eq_of_toNat_eq hn)) s.mem

/-- What a byte reads as after a write, in a canonical memory (R51, R52). -/
theorem State.read_write {s : State} (a q : Word) (v : Byte) (hm : s.mem.wf = true) :
    (s.write a v).read q = if q = a then v else s.read q := by
  by_cases h : q = a
  · subst h
    rw [if_pos rfl, State.read_write_self q v hm]
  · rw [if_neg h, State.read_write_ne s v h]

/-- Two canonical memories that read alike at every address are the same list. -/
theorem Memory.eq_of_read_eq :
    ∀ {m m' : Memory} {low : Nat}, Memory.wfFrom low m = true → Memory.wfFrom low m' = true →
      (∀ a, m.read a = m'.read a) → m = m'
  | [], [], _, _, _, _ => rfl
  | [], (k, v) :: rest, _, _, hm', h => by
    rw [Memory.wfFrom_cons] at hm'
    have hk := h k
    rw [Memory.read_cons, if_pos rfl] at hk
    exact absurd hk.symm hm'.2.2.1
  | (k, v) :: rest, [], _, hm, _, h => by
    rw [Memory.wfFrom_cons] at hm
    have hk := h k
    rw [Memory.read_cons, if_pos rfl] at hk
    exact absurd hk hm.2.2.1
  | (k, v) :: rest, (k', v') :: rest', _, hm, hm', h => by
    rw [Memory.wfFrom_cons] at hm hm'
    have hkk : k = k' := by
      rcases Nat.lt_trichotomy k k' with hlt | heq | hgt
      · have hk := h k
        rw [Memory.read_cons, if_pos rfl, Memory.read_cons, if_neg (by omega)] at hk
        exact absurd (hk.trans (Memory.read_below hm'.2.2.2 (by omega))) hm.2.2.1
      · exact heq
      · have hk := h k'
        rw [Memory.read_cons, if_neg (by omega), Memory.read_cons, if_pos rfl] at hk
        exact absurd (hk.symm.trans (Memory.read_below hm.2.2.2 (by omega))) hm'.2.2.1
    subst hkk
    have hv : v = v' := by
      have hk := h k
      rwa [Memory.read_cons, if_pos rfl, Memory.read_cons, if_pos rfl] at hk
    have hrest : rest = rest' := by
      apply Memory.eq_of_read_eq hm.2.2.2 hm'.2.2.2
      intro a
      by_cases ha : a = k
      · subst ha
        rw [Memory.read_below hm.2.2.2 (by omega), Memory.read_below hm'.2.2.2 (by omega)]
      · have hk := h a
        rwa [Memory.read_cons, if_neg ha, Memory.read_cons, if_neg ha] at hk
    rw [hv, hrest]

/-! ## The bus -/

/-- A bus read at a 16-bit address always succeeds (R51). -/
theorem State.busRead_word (s : State) (a : Word) : s.busRead (a.toNat : Nat) = .ok (s.read a) := by
  have h := Word.toNat_le_top a
  have hs : inAddressSpace ((a.toNat : Nat) : Int) = true := by
    simp [inAddressSpace]
    omega
  simp [State.busRead, hs]

/-- A bus read at a natural address: the byte inside the space, the failure outside it (R51). -/
theorem State.busRead_nat (s : State) (n : Nat) :
    s.busRead (n : Nat) =
      if n ≤ Config.topAddress then .ok (s.read (BitVec.ofNat 16 n))
      else .error (.outOfRangeAddress (n : Nat)) := by
  by_cases h : n ≤ Config.topAddress
  · have hs : inAddressSpace ((n : Nat) : Int) = true := by
      simp [inAddressSpace]
      omega
    simp [State.busRead, hs, h]
  · have hs : inAddressSpace ((n : Nat) : Int) = false := by
      simp [inAddressSpace]
      omega
    simp [State.busRead, hs, h]

end Sys2Proof.Machine
end

