-- ==== Sys2Proof/Laws/Fetch.lean ====
section
/-! SUPPORT. What fetching and stepping do: the window of bytes at PC, the step in each mode, and the failure of an
instruction whose bytes run past 0xFFFF. -/

namespace Sys2Proof.Machine

open Sys2Proof.Laws

variable (s : State)

/-! ## The window -/

theorem State.bytesFrom_succ (a n : Nat) :
    s.bytesFrom a (n + 1) =
      if a ≤ Config.topAddress then s.read (BitVec.ofNat 16 a) :: s.bytesFrom (a + 1) n else [] := by
  rw [State.bytesFrom, State.busRead_nat]
  by_cases h : a ≤ Config.topAddress
  · simp only [if_pos h]
  · simp only [if_neg h]

@[simp] theorem State.bytesFrom_zero (a : Nat) : s.bytesFrom a 0 = [] := rfl

/-- The window always holds the opcode byte (R123). -/
theorem State.window_cons : s.window = s.read s.pc :: s.bytesFrom (s.pc.toNat + 1) 2 := by
  unfold State.window
  rw [State.bytesFrom_succ, if_pos (Word.toNat_le_top s.pc)]
  simp

theorem State.window_full (h : s.pc.toNat ≤ 0xFFFD) :
    s.window = [s.read s.pc, s.read (s.pc + 1), s.read (s.pc + 2)] := by
  have h1 : BitVec.ofNat 16 (s.pc.toNat + 1) = s.pc + 1 := by bv_omega
  have h2 : BitVec.ofNat 16 (s.pc.toNat + 1 + 1) = s.pc + 2 := by bv_omega
  rw [State.window_cons, State.bytesFrom_succ, State.bytesFrom_succ, h1, h2,
    if_pos (by unfold Config.topAddress; omega), if_pos (by unfold Config.topAddress; omega),
    State.bytesFrom_zero]

theorem State.window_two (h : s.pc.toNat = 0xFFFE) :
    s.window = [s.read s.pc, s.read (s.pc + 1)] := by
  have h1 : BitVec.ofNat 16 (s.pc.toNat + 1) = s.pc + 1 := by bv_omega
  rw [State.window_cons, State.bytesFrom_succ, State.bytesFrom_succ, h1,
    if_pos (by unfold Config.topAddress; omega), if_neg (by unfold Config.topAddress; omega)]

theorem State.window_one (h : s.pc.toNat = 0xFFFF) : s.window = [s.read s.pc] := by
  rw [State.window_cons, State.bytesFrom_succ, if_neg (by unfold Config.topAddress; omega)]

/-! ## The step -/

/-- A suspended step changes nothing and succeeds (R122). -/
theorem step_suspended (h : s.mode ≠ .running) : step s = .next s := by
  unfold step runStep
  cases hm : s.mode
  · exact absurd hm h
  · rfl
  · rfl

/-- A Running step executes what it fetches, or fails as the fetch does (R121). -/
theorem step_running (h : s.mode = .running) :
    step s = (match fetch s with | .ok i => exec i s | .error f => raise f) := by
  cases hf : fetch s <;> simp only [step, runStep, h, hf]

theorem step_of_decode {i : Instr} {rest : List Byte} (hm : s.mode = .running)
    (hd : decode s.window = .ok (i, rest)) : step s = exec i s := by
  rw [step_running s hm]
  simp only [fetch, hd]

theorem step_of_decode_error {e : DecodeError} (hm : s.mode = .running)
    (hd : decode s.window = .error e) : step s = .fault (fetchFault s e) := by
  rw [step_running s hm]
  simp only [fetch, hd, raise]

/-- The escape byte whose sub-opcode cannot be read fails as the read does (R306). -/
theorem exec_prefixCb_error {f : Fault} (hx : s.busRead (s.pc.toNat + 1 : Nat) = .error f) :
    exec .prefixCb s = .fault f := by
  rw [exec_eq_formRule]
  change escapeRule s = _
  unfold escapeRule
  rw [hx]
  rfl

/-- The escape byte at 0xFFFF fails for its sub-opcode (R124, R306). -/
theorem exec_prefixCb_at_top (h : s.pc.toNat = 0xFFFF) :
    exec .prefixCb s = .fault (.outOfRangeAddress 0x10000) := by
  apply exec_prefixCb_error
  have h2 : ¬ (s.pc.toNat + 1 ≤ Config.topAddress) := by unfold Config.topAddress; omega
  have h3 : ((s.pc.toNat + 1 : Nat) : Int) = 0x10000 := by omega
  rw [State.busRead_nat, if_neg h2, h3]

/-- The only failures of fetching any row: its last byte would lie past 0xFFFF (R124, R126, R322). -/
theorem fetchFailsPastTop (i : Instr) : FetchFailsPastTop i := by
  intro u hm hh hlen
  have hpc := u.pc.isLt
  obtain rfl | ⟨op, he, hc⟩ | ⟨op, f, x, he, hc, hf⟩ | ⟨c, he, hc⟩ | ⟨op, f, v, he, hc, hf⟩ :=
    encode_cell i
  · change u.pc.toNat + 1 > 0x10000 at hlen
    omega
  · simp only [he, List.length_singleton, Config.memorySize] at hlen
    omega
  · simp only [he, List.length_cons, List.length_nil, Config.memorySize] at hlen
    simp only [he, List.head?_cons, Option.some.injEq] at hh
    have hw : u.pc.toNat = 0xFFFF := by omega
    have hd : decode u.window = .error (.missingByte 1) := by
      rw [State.window_one u hw, ← hh]
      simp only [decode, hc, decodeImm8]
    rw [step_of_decode_error u hm hd]
    simp [fetchFault, hw]
  · simp only [he, List.length_cons, List.length_nil, Config.memorySize] at hlen
    simp only [he, List.head?_cons, Option.some.injEq] at hh
    have hw : u.pc.toNat = 0xFFFF := by omega
    have hd : decode u.window = .ok (.prefixCb, []) := by
      rw [State.window_one u hw, ← hh]
      rfl
    rw [step_of_decode u hm hd, exec_prefixCb_at_top u hw]
  · simp only [he, operand16, List.length_cons, List.length_nil, Config.memorySize] at hlen
    simp only [he, List.head?_cons, Option.some.injEq] at hh
    by_cases hw : u.pc.toNat = 0xFFFF
    · have hd : decode u.window = .error (.missingByte 1) := by
        rw [State.window_one u hw, ← hh]
        simp only [decode, hc, decodeImm16]
      rw [step_of_decode_error u hm hd]
      simp [fetchFault, hw]
    · have hw' : u.pc.toNat = 0xFFFE := by omega
      have hd : decode u.window = .error (.missingByte 2) := by
        rw [State.window_two u hw', ← hh]
        simp only [decode, hc, decodeImm16]
      rw [step_of_decode_error u hm hd]
      simp [fetchFault, hw']

end Sys2Proof.Machine
end

