-- ==== Sys2Proof/Laws/Flags.lean ====
section
/-! SUPPORT. The laws of the flags register (R25, R26): the byte of four flags, what a write of F stores, and reading
the flags back. -/

namespace Sys2Proof.Machine

@[simp] theorem Flags.ofByte_toByte (fl : Flags) : Flags.ofByte fl.toByte = fl := by
  cases fl with
  | mk z n h c => cases z <;> cases n <;> cases h <;> cases c <;> rfl

@[simp] theorem maskF_toByte (fl : Flags) : maskF fl.toByte = fl.toByte := by
  cases fl with
  | mk z n h c => cases z <;> cases n <;> cases h <;> cases c <;> rfl

theorem Flags.toByte_low (fl : Flags) : fl.toByte &&& 0x0F = 0 := by
  cases fl with
  | mk z n h c => cases z <;> cases n <;> cases h <;> cases c <;> rfl

theorem maskF_low (v : Byte) : maskF v &&& 0x0F = 0 := by
  unfold maskF
  rw [BitVec.and_assoc]
  simp

theorem maskF_mask (v : Byte) : maskF (maskF v) = maskF v := by
  unfold maskF
  rw [BitVec.and_assoc]
  simp

/-- The flags in a byte are those in what F stores of it (R26). -/
@[simp] theorem Flags.ofByte_maskF (v : Byte) : Flags.ofByte (maskF v) = Flags.ofByte v := by
  simp [Flags.ofByte, maskF]

/-- A byte whose low nibble is 0 is the byte of its own flags (R25, R26). -/
theorem Flags.toByte_ofByte (v : Byte) (h : v &&& 0x0F = 0) : (Flags.ofByte v).toByte = v := by
  revert v
  decide

@[simp] theorem State.setFlags_f (s : State) (fl : Flags) : (s.setFlags fl).f = fl.toByte :=
  maskF_toByte fl

@[simp] theorem State.setFlags_flags (s : State) (fl : Flags) : (s.setFlags fl).flags = fl := by
  simp only [State.flags, State.setFlags_f, Flags.ofByte_toByte]

@[simp] theorem State.setF_flags (s : State) (v : Byte) : (s.setF v).flags = Flags.ofByte v := by
  simp only [State.flags, State.setF_f, Flags.ofByte_maskF]

end Sys2Proof.Machine
end

