-- ==== Sys2Proof/Laws/Invariant.lean ====
section
/-! SUPPORT. Every named update of the state keeps the invariant of Safety.lean: a canonical memory, and bits 3..0 of F
equal to 0 (R26, R50). A proof about a whole instruction chains these. -/

namespace Sys2Proof.Machine

variable {s : State}

/-- An update that leaves F and memory alone keeps the invariant. -/
theorem State.Inv.of_eq {t : State} (h : s.Inv) (hf : t.f = s.f) (hm : t.mem = s.mem) : t.Inv := by
  unfold State.Inv
  rw [hf, hm]
  exact h

theorem State.Inv.setReg (h : s.Inv) (r : Reg8) (v : Byte) : (s.setReg r v).Inv :=
  h.of_eq (State.setReg_f s r v) (State.setReg_mem s r v)

theorem State.Inv.setHl (h : s.Inv) (v : Word) : (s.setHl v).Inv := h.of_eq rfl rfl

theorem State.Inv.setPair (h : s.Inv) (rp : Pair) (v : Word) : (s.setPair rp v).Inv :=
  h.of_eq (State.setPair_f s rp v) (State.setPair_mem s rp v)

theorem State.Inv.setF (h : s.Inv) (v : Byte) : (s.setF v).Inv := ⟨h.1, maskF_low v⟩

theorem State.Inv.setFlags (h : s.Inv) (fl : Flags) : (s.setFlags fl).Inv := h.setF _

theorem State.Inv.write (h : s.Inv) (a : Word) (v : Byte) : (s.write a v).Inv :=
  ⟨State.write_wf a v h.1, h.2⟩

theorem State.Inv.setLoc (h : s.Inv) (x : Loc) (v : Byte) : (s.setLoc x v).Inv := by
  cases x with
  | reg r => exact h.setReg r v
  | atHl => exact h.write s.hl v

theorem State.Inv.setStackPair (h : s.Inv) (rp2 : StackPair) (v : Word) : (s.setStackPair rp2 v).Inv := by
  cases rp2
  · exact h.of_eq rfl rfl
  · exact h.of_eq rfl rfl
  · exact h.setHl v
  · exact State.Inv.setF (h.of_eq rfl rfl) _

theorem State.Inv.jump (h : s.Inv) (t : Word) : (s.jump t).Inv := h.of_eq rfl rfl

theorem State.Inv.advance (h : s.Inv) (n : Nat) : (s.advance n).Inv := h.of_eq rfl rfl

theorem State.Inv.drop16 (h : s.Inv) : s.drop16.Inv := h.of_eq rfl rfl

theorem State.Inv.push16 (h : s.Inv) (v : Word) : (s.push16 v).Inv :=
  State.Inv.of_eq ((h.write (s.sp - 1) (hiByte v)).write (s.sp - 2) (loByte v)) rfl rfl

theorem State.Inv.stepAccAddress (h : s.Inv) (x : AccAddr) : (s.stepAccAddress x).Inv := by
  cases x
  · exact h
  · exact h
  · exact h.setHl _
  · exact h.setHl _
  · exact h

theorem State.Inv.accumulate (h : s.Inv) (op : AluOp) (v : Byte) : (s.accumulate op v).Inv := by
  cases op
  all_goals first | exact (h.setReg _ _).setFlags _ | exact h.setFlags _

/-- The outcome of a retired instruction. -/
theorem retire_next {n : Nat} {t u : State} (h : retire n t = .next u) : u = t.advance n :=
  (Host.Outcome.next.inj h).symm

end Sys2Proof.Machine
end

