-- ==== Sys2Proof/Laws/Row.lean ====
section
/-! SUPPORT. The clauses that every instruction's statement shares: its row from its form, its cycle cost from its
form, and what writing an operand location, the flags, the stack and PC leaves of a state. -/

namespace Sys2Proof.Machine

open Sys2Proof.Laws

/-! ## The row and the cost, from the form -/

theorem row_of_form {i : Instr} {f : Form} (h : i.form = f) : Row i f.bytes :=
  ⟨bytes_of_form h, fetchFailsPastTop i⟩

/-- The condition of a form. -/
def formCond : Form → Option Cond
  | .jpIf cc _ => some cc
  | .jrIf cc _ => some cc
  | .callIf cc _ => some cc
  | .retIf cc => some cc
  | _ => none

/-- The cycle cost of a form whose bytes are given. -/
def bytesCost (bytes : List Byte) (cc : Option Cond) (s : State) : Option Nat :=
  match bytes with
  | [] => none
  | op :: rest =>
    if op = Config.escapeByte then rest.head?.map extCycles
    else (baseCycles op).map fun cell =>
      if (match cc with | some c' => s.cond c' | none => true) then cell.1 else cell.2

theorem condition_of_form {i : Instr} {f : Form} (h : i.form = f) : condition i = formCond f := by
  unfold condition
  rw [h]
  cases f <;> rfl

theorem cost_of_form {i : Instr} {f : Form} (h : i.form = f) (s : State) :
    cycleCost i s = bytesCost f.bytes (formCond f) s := by
  have hc := condition_of_form h
  have he : encode i = f.bytes := by rw [encode, h]
  unfold cycleCost bytesCost takes
  cases hb : f.bytes <;> simp only [hc, he, hb] <;> rfl

/-! ## The flags -/

theorem State.flags_eq (s : State) : s.flags = Flags.mk s.zf s.nf s.hf s.cf := rfl

@[simp] theorem State.cond_eq (s : State) (cc : Cond) : s.cond cc = s.holdsCond cc := by
  cases cc <;> rfl

/-! ## Locations -/

variable {s : State}

theorem State.reg_setReg_ne (s : State) {r q : Reg8} (v : Byte) (h : q ≠ r) : (s.setReg r v).reg q = s.reg q := by
  cases r <;> cases q <;> first | rfl | exact absurd rfl h

theorem State.setLoc_holds (s : State) (dst : Loc) (v : Byte) : Holds s (s.setLoc dst v) dst v := by
  cases dst with
  | reg r => exact (State.setReg_reg s r r v).trans (if_pos rfl)
  | atHl => exact fun hm => State.read_write_self s.hl v hm

theorem State.setLoc_frame (s : State) (dst : Loc) (v : Byte) :
    Frame s (s.setLoc dst v) (writtenRegs dst) (s.storedAt dst) := by
  cases dst with
  | reg r =>
    refine ⟨fun q hq => State.reg_setReg_ne s v (by simpa [writtenRegs] using hq), fun a _ => ?_, ?_, ?_⟩
    · exact State.setReg_read s r v a
    · exact State.setReg_mode s r v
    · exact State.setReg_ime s r v
  | atHl =>
    refine ⟨fun q _ => State.write_reg s s.hl v q, fun a ha => ?_, rfl, rfl⟩
    exact State.read_write_ne s v (by simpa [State.storedAt] using ha)

/-- A frame depends on the registers, the bytes, the mode and IME of the state after alone. -/
theorem Frame.congr {s t u : State} {w : List Reg8} {l : List Word} (h : Frame s t w l)
    (hr : ∀ r, u.reg r = t.reg r) (hm : u.mem = t.mem) (hmode : u.mode = t.mode) (hime : u.ime = t.ime) :
    Frame s u w l := by
  refine ⟨fun q hq => (hr q).trans (h.1 q hq), fun a ha => ?_, hmode.trans h.2.2.1, hime.trans h.2.2.2⟩
  have := h.2.1 a ha
  unfold State.read at *
  rw [hm]
  exact this

theorem Frame.setFlags {t : State} {w : List Reg8} {l : List Word} (h : Frame s t w l) (fl : Flags) :
    Frame s (t.setFlags fl) w l :=
  h.congr (State.setFlags_reg t fl) rfl rfl rfl

theorem Frame.advance {t : State} {w : List Reg8} {l : List Word} (h : Frame s t w l) (n : Nat) :
    Frame s (t.advance n) w l :=
  h.congr (fun r => by cases r <;> rfl) rfl rfl rfl

theorem Frame.jump {t : State} {w : List Reg8} {l : List Word} (h : Frame s t w l) (target : Word) :
    Frame s (t.jump target) w l :=
  h.congr (fun r => by cases r <;> rfl) rfl rfl rfl

theorem Holds.congr {s t u : State} {dst : Loc} {v : Byte} (h : Holds s t dst v)
    (hr : ∀ r, u.reg r = t.reg r) (hm : u.mem = t.mem) : Holds s u dst v := by
  cases dst with
  | reg r => exact (hr r).trans h
  | atHl =>
    intro hwf
    have := h hwf
    unfold State.read at *
    rw [hm]
    exact this

theorem Holds.setFlags {t : State} {dst : Loc} {v : Byte} (h : Holds s t dst v) (fl : Flags) :
    Holds s (t.setFlags fl) dst v := h.congr (State.setFlags_reg t fl) rfl

theorem Holds.advance {t : State} {dst : Loc} {v : Byte} (h : Holds s t dst v) (n : Nat) :
    Holds s (t.advance n) dst v := h.congr (fun r => by cases r <;> rfl) rfl

/-! ## Pairs and the stack -/

theorem State.setPair_frame (s : State) (rp : Pair) (v : Word) : Frame s (s.setPair rp v) (pairRegs rp) [] := by
  refine ⟨fun q hq => ?_, fun a _ => ?_, ?_, ?_⟩
  · cases rp <;> cases q <;> first | rfl | exact absurd (by simp [pairRegs]) hq
  · exact State.setPair_read s rp v a
  · exact State.setPair_mode s rp v
  · exact State.setPair_ime s rp v

theorem State.push16_pushed (s : State) (v : Word) : Pushed s (s.push16 v) v := by
  refine ⟨rfl, fun hm => ?_⟩
  have hne : s.sp - 1 ≠ s.sp - 2 := by bv_omega
  have h1 : (s.push16 v).read (s.sp - 1) = hiByte v :=
    (State.read_write_ne _ _ hne).trans (State.read_write_self _ _ hm)
  have h2 : (s.push16 v).read (s.sp - 2) = loByte v :=
    State.read_write_self _ _ (State.write_wf _ _ hm)
  rw [h1, h2, joinBytes_hi_lo]

theorem State.push16_frame (s : State) (v : Word) :
    Frame s (s.push16 v) [] [s.sp - 1, s.sp - 2] := by
  refine ⟨fun q _ => State.push16_reg s v q, fun a ha => ?_, rfl, rfl⟩
  simp only [List.mem_cons, List.not_mem_nil, or_false, not_or] at ha
  exact (State.read_write_ne _ _ ha.2).trans (State.read_write_ne _ _ ha.1)

theorem Pushed.jump {t : State} {v : Word} (h : Pushed s t v) (target : Word) : Pushed s (t.jump target) v := h

end Sys2Proof.Machine
end

