-- ==== Sys2Proof/Laws/Seam.lean ====
section
/-! SUPPORT. The laws of an instance and its histories: what a step of an instance answers, which actions are seam
actions, what an action does to an instance that is left alone in a suspension, and a history in two parts. -/

namespace Sys2Proof.Machine

/-! ## The host's writes -/

theorem State.hostWrite_inside (s : State) {a : Int} {v : Byte} (h : inAddressSpace a = true) :
    s.hostWrite (.write a v) = s.write (BitVec.ofNat 16 a.toNat) v := by
  simp only [hostWrite, busWrite, h, if_true]

theorem State.hostWrite_outside (s : State) {a : Int} {v : Byte} (h : inAddressSpace a = false) :
    s.hostWrite (.write a v) = s := by
  simp only [hostWrite, busWrite, h, Bool.false_eq_true, if_false]

/-- A host write changes at most memory (R52). -/
theorem State.hostWrite_eq (s : State) (action : HostAction) :
    s.hostWrite action = { s with mem := (s.hostWrite action).mem } := by
  cases action with
  | write a v =>
    cases h : inAddressSpace a with
    | true => rw [s.hostWrite_inside h]; rfl
    | false => rw [s.hostWrite_outside h]
  | _ => rfl

@[simp] theorem State.hostWrite_mode (s : State) (action : HostAction) : (s.hostWrite action).mode = s.mode := by
  rw [s.hostWrite_eq action]

@[simp] theorem State.hostWrites_nil (s : State) : s.hostWrites [] = s := rfl

@[simp] theorem State.hostWrites_cons (s : State) (action : HostAction) (rest : List HostAction) :
    s.hostWrites (action :: rest) = (s.hostWrite action).hostWrites rest := rfl

/-- A host write leaves every byte it does not name as it was (R52, R68). -/
theorem State.hostWrite_read (s : State) {action : HostAction} {q : Word}
    (h : ∀ v, action ≠ .write q.toNat v) : (s.hostWrite action).read q = s.read q := by
  cases action with
  | write a v =>
    cases ha : inAddressSpace a with
    | false => rw [s.hostWrite_outside ha]
    | true =>
      rw [s.hostWrite_inside ha]
      refine State.read_write_ne s v (fun hq => h v ?_)
      unfold inAddressSpace Config.topAddress at ha
      rw [Bool.and_eq_true, decide_eq_true_iff, decide_eq_true_iff] at ha
      rw [hq, BitVec.toNat_ofNat, Nat.mod_eq_of_lt (by omega), Int.toNat_of_nonneg ha.1]
  | _ => rfl

namespace MachineInstance

variable (m : MachineInstance)

/-! ## Histories -/

@[simp] theorem after_nil : m.after [] = m := rfl

@[simp] theorem after_cons (action : HostAction) (rest : List HostAction) :
    m.after (action :: rest) = (m.act action).1.after rest := rfl

theorem after_append (xs ys : List HostAction) : m.after (xs ++ ys) = (m.after xs).after ys := by
  induction xs generalizing m with
  | nil => rfl
  | cons action rest ih => exact ih (m.act action).1

/-! ## Each action -/

@[simp] theorem act_step : m.act .step = m.doStep := rfl
@[simp] theorem act_read (a : Int) : m.act (.read a) = m.doRead a := rfl
@[simp] theorem act_write (a : Int) (v : Byte) : m.act (.write a v) = m.doWrite a v := rfl
@[simp] theorem act_wake : m.act .wake = ({ m with state := m.state.wake }, .done) := rfl
@[simp] theorem act_enter (irq : Interrupt) : m.act (.enter irq) = m.doEnter irq := rfl

@[simp] theorem doRead_fst (a : Int) : (m.doRead a).1 = m := by
  unfold doRead
  cases m.state.busRead a <;> rfl

@[simp] theorem doWrite_fst (a : Int) (v : Byte) :
    (m.doWrite a v).1 = { m with state := m.state.hostWrite (.write a v) } := by
  simp only [doWrite, State.hostWrite]
  cases m.state.busWrite a v <;> rfl

theorem doEnter_of_ime {irq : Interrupt} (h : m.state.ime = true) :
    m.doEnter irq = ({ m with
      state := m.state.enterInterrupt irq.vector
      cycles := m.cycles + Config.entryCycles }, .cost Config.entryCycles) := by
  rw [doEnter, if_pos h]

theorem doEnter_of_not_ime {irq : Interrupt} (h : m.state.ime = false) : m.doEnter irq = (m, .notPerformed) := by
  rw [doEnter, if_neg (by rw [h]; decide)]

/-! ## A step of an instance -/

theorem doStep_failed {f : Fault} (h : m.failure = some f) : m.doStep = (m, .notPerformed) := by
  simp only [doStep, h]

theorem doStep_next {t : State} (h : m.failure = none) (hs : step m.state = .next t) :
    m.doStep = ({ m with state := t, cycles := m.cycles + (stepCost m.state).getD 0 },
      .cost ((stepCost m.state).getD 0)) := by
  simp only [doStep, h, hs]

/-- A successful step of an instance: it has no failure recorded, and its state is the step's. -/
theorem of_doStep_cost {n : MachineInstance} {k : Nat} (h : m.doStep = (n, .cost k)) :
    m.failure = none ∧ n.failure = none ∧ step m.state = .next n.state := by
  cases hf : m.failure with
  | some f => rw [m.doStep_failed hf] at h; cases h
  | none =>
    cases hs : step m.state with
    | next t => rw [m.doStep_next hf hs] at h; cases h; exact ⟨rfl, hf, rfl⟩
    | fault f => simp only [doStep, hf, hs] at h; cases h
    | refused r => simp only [doStep, hf, hs] at h; cases h

/-- A recorded failure stays through every action (R339). -/
theorem act_failed {f : Fault} (h : m.failure = some f) (action : HostAction) :
    (m.act action).1.failure = some f := by
  cases action with
  | step => rw [act_step, m.doStep_failed h]; exact h
  | read a => rw [act_read, doRead_fst]; exact h
  | write a v => rw [act_write, doWrite_fst]; exact h
  | wake => exact h
  | enter irq =>
    cases hi : m.state.ime with
    | true => rw [act_enter, m.doEnter_of_ime hi]; exact h
    | false => rw [act_enter, m.doEnter_of_not_ime hi]; exact h

/-! ## Seam actions -/

@[simp] theorem performsSeam_step : m.performsSeam .step = false := rfl
@[simp] theorem performsSeam_read (a : Int) : m.performsSeam (.read a) = false := rfl
@[simp] theorem performsSeam_write (a : Int) (v : Byte) : m.performsSeam (.write a v) = false := rfl
@[simp] theorem performsSeam_wake : m.performsSeam .wake = true := rfl

@[simp] theorem performsSeam_enter (irq : Interrupt) : m.performsSeam (.enter irq) = m.state.ime := by
  unfold performsSeam
  cases h : m.state.ime with
  | true => rw [act_enter, m.doEnter_of_ime h]; rfl
  | false => rw [act_enter, m.doEnter_of_not_ime h]; rfl

/-- A seam action that is performed leaves the core Running (R330, R331). -/
theorem act_seam_running {action : HostAction} (h : m.performsSeam action = true) :
    (m.act action).1.state.mode = .running := by
  cases action with
  | step => cases h
  | read a => cases h
  | write a v => cases h
  | wake => rfl
  | enter irq => rw [act_enter, m.doEnter_of_ime (by rwa [performsSeam_enter] at h)]; rfl

/-- Any action but a step and a performed seam action does what the host's write does, and nothing else. -/
theorem act_other {action : HostAction} (hn : action ≠ .step) (h : m.performsSeam action = false) :
    (m.act action).1 = { m with state := m.state.hostWrite action } := by
  cases action with
  | step => exact absurd rfl hn
  | read a => exact m.doRead_fst a
  | write a v => exact m.doWrite_fst a v
  | wake => cases h
  | enter irq => rw [act_enter, m.doEnter_of_not_ime (by rwa [performsSeam_enter] at h)]; rfl

/-- On a suspended core every action but a performed seam action does what the host's write does, and a step adds to the
host's count of cycles (R122, R340). -/
theorem act_suspended {action : HostAction} (hs : m.state.mode ≠ .running) (h : m.performsSeam action = false) :
    ∃ cycles, (m.act action).1 = { m with state := m.state.hostWrite action, cycles := cycles } := by
  by_cases hn : action = .step
  · subst hn
    cases hf : m.failure with
    | some f => exact ⟨m.cycles, by rw [act_step, m.doStep_failed hf, ← hf]; rfl⟩
    | none => exact ⟨_, by rw [act_step, m.doStep_next hf (step_suspended m.state hs), ← hf]; rfl⟩
  · exact ⟨m.cycles, m.act_other hn h⟩

/-! ## Left alone, and the steps that halt -/

@[simp] theorem leftAlone_nil : m.leftAlone [] = true := rfl

theorem leftAlone_cons (action : HostAction) (rest : List HostAction) :
    m.leftAlone (action :: rest) = (!m.performsSeam action && (m.act action).1.leftAlone rest) := rfl

theorem leftAlone_append (xs ys : List HostAction) :
    m.leftAlone (xs ++ ys) = (m.leftAlone xs && (m.after xs).leftAlone ys) := by
  induction xs generalizing m with
  | nil => rfl
  | cons action rest ih => rw [List.cons_append, leftAlone_cons, leftAlone_cons, ih, Bool.and_assoc]; rfl

/-- An action ends in a successful halting step exactly when it is a step that succeeds with the mode Halted (R368). -/
theorem haltsBy_iff (action : HostAction) :
    m.haltsBy action = true ↔
      action = .step ∧ (∃ cost, m.act .step = ((m.act .step).1, .cost cost)) ∧
        (m.act .step).1.state.mode = .halted := by
  cases action with
  | step =>
    unfold haltsBy
    generalize m.act .step = r
    obtain ⟨n, reply⟩ := r
    cases reply <;> simp
  | read a => simp [haltsBy]
  | write a v => simp [haltsBy]
  | wake => simp [haltsBy]
  | enter irq => simp [haltsBy]

end MachineInstance

end Sys2Proof.Machine
end

