-- ==== Sys2Proof/Laws/Whole.lean ====
section
/-! SUPPORT. What proofs about every instruction at once lean on: the row behind an illegal opcode and behind the escape
byte, the extended rule a sub-opcode selects, and the reduction of any completed instruction to the rule of a form
other than the escape's. -/

namespace Sys2Proof.Laws

open Sys2Proof.Machine

/-- The cell of an opcode agrees with the list of illegal values (R99). -/
def cellIsIllegal (op : Byte) : Bool :=
  match baseCell op with
  | some (.whole i) =>
    match i.form with
    | .illegal o => decide (o = op) && decide (op ∈ illegalOpcodes)
    | _ => decide (op ∉ illegalOpcodes)
  | some (.imm8 _) => decide (op ∉ illegalOpcodes)
  | some (.imm16 _) => decide (op ∉ illegalOpcodes)
  | some .sub => decide (op ∉ illegalOpcodes)
  | none => false

theorem cellIsIllegal_all : ∀ op : Byte, cellIsIllegal op = true := by decide

/-- An illegal row is the cell of its opcode, and its opcode is one of the eleven (R99). -/
theorem illegal_of_form {i : Instr} {op : Byte} (h : i.form = .illegal op) :
    op ∈ illegalOpcodes ∧ baseCell op = some (.whole i) := by
  have hb := (bytes_of_form h).1
  obtain rfl | ⟨o, he, hc⟩ | ⟨o, f, x, he, hc, hf⟩ | ⟨c, he, hc⟩ | ⟨o, f, v, he, hc, hf⟩ := encode_cell i
  · cases h
  · rw [hb] at he
    obtain rfl : op = o := by simpa [Form.bytes] using he
    refine ⟨?_, hc⟩
    have hok := cellIsIllegal_all op
    simp only [cellIsIllegal, hc, h] at hok
    simpa using hok
  · rw [hb] at he; simp [Form.bytes] at he
  · rw [hb] at he; simp [Form.bytes] at he
  · rw [hb] at he; simp [Form.bytes, operand16] at he

/-- The escape row is the only row of its form (R92). -/
theorem prefixCb_of_form {i : Instr} (hp : i.form = .escape) : i = .prefixCb := by
  obtain rfl | ⟨op, he, hc⟩ | ⟨op, f, x, he, hc, hf⟩ | ⟨c, he, hc⟩ | ⟨op, f, v, he, hc, hf⟩ := encode_cell i
  · rfl
  · rw [encode, hp] at he
    obtain rfl : Config.escapeByte = op := by simpa [Form.bytes] using he
    simp [baseCell_escape] at hc
  · rw [encode, hp] at he; simp [Form.bytes] at he
  · rw [encode, hp] at he; simp [Form.bytes] at he
  · rw [encode, hp] at he; simp [Form.bytes, operand16] at he

/-- The row of a sub-opcode has the fields of the sub-opcode (R91). -/
def extFieldsAgree (c : Byte) : Bool :=
  match extCell c with
  | none => false
  | some i =>
    match i.form with
    | .rot op dst => fieldX c == 0 && op.code == fieldY c && dst.code == fieldZ c
    | .bit b src => fieldX c == 1 && b == fieldY c && src.code == fieldZ c
    | .res b dst => fieldX c == 2 && b == fieldY c && dst.code == fieldZ c
    | .set b dst => fieldX c == 3 && b == fieldY c && dst.code == fieldZ c
    | _ => false

theorem extFieldsAgree_all : ∀ c : Byte, extFieldsAgree c = true := by decide

theorem Loc.ofCode_code (x : Loc) : Loc.ofCode x.code = x := by
  cases x with
  | reg r => cases r <;> rfl
  | atHl => rfl

theorem RotOp.ofCode_code (op : RotOp) : RotOp.ofCode op.code = op := by
  cases op <;> rfl

/-- The rule the escape selects by the fields of the sub-opcode is the rule of the sub-opcode's row (R91, R306). -/
theorem extendedRule_eq (c : Byte) (s : State) :
    ∃ i, extCell c = some i ∧ encode i = [Config.escapeByte, c] ∧ extendedRule c s = formRule i.form s := by
  obtain ⟨i, hc, he⟩ := extCell_encodes c
  refine ⟨i, hc, he, ?_⟩
  have hok := extFieldsAgree_all c
  simp only [extFieldsAgree, hc] at hok
  split at hok
  all_goals try contradiction
  all_goals
    rename_i b dst hf
    simp only [Bool.and_eq_true, beq_iff_eq] at hok
    simp only [extendedRule, hok.1.1, ← hok.1.2, ← hok.2, hf, Loc.ofCode_code, RotOp.ofCode_code]
    rfl

/-- The escape row with its sub-opcode inside the address space (R306). -/
theorem exec_prefixCb (s : State) (h : s.pc.toNat ≠ 0xFFFF) :
    exec .prefixCb s = extendedRule (s.read (s.pc + 1)) s := by
  have hlt := s.pc.isLt
  have h1 : BitVec.ofNat 16 (s.pc.toNat + 1) = s.pc + 1 := by bv_omega
  rw [exec_eq_formRule]
  change escapeRule s = _
  unfold escapeRule
  rw [State.busRead_nat, if_pos (by unfold Config.topAddress; omega), h1]

/-- Whatever row completes, what it did is the rule of a row that is not the escape: its own, or the extended row that the
escape selected (R306). -/
theorem exec_next_cases {i : Instr} {s t : State} (h : exec i s = .next t) :
    ∃ j : Instr, j.form ≠ .escape ∧ formRule j.form s = .next t ∧
      ((i ≠ .prefixCb ∧ j = i) ∨
       (i = .prefixCb ∧ s.pc.toNat ≠ 0xFFFF ∧ encode j = [Config.escapeByte, s.read (s.pc + 1)])) := by
  by_cases hp : i = .prefixCb
  · subst hp
    by_cases hpc : s.pc.toNat = 0xFFFF
    · rw [exec_prefixCb_at_top s hpc] at h
      cases h
    · rw [exec_prefixCb s hpc] at h
      obtain ⟨j, _, he, hx⟩ := extendedRule_eq (s.read (s.pc + 1)) s
      rw [hx] at h
      refine ⟨j, fun hj => ?_, h, .inr ⟨rfl, hpc, he⟩⟩
      rw [encode, hj] at he
      simp [Form.bytes] at he
  · exact ⟨i, fun hj => hp (prefixCb_of_form hj), by rw [← exec_eq_formRule, h], .inl ⟨hp, rfl⟩⟩

end Sys2Proof.Laws

namespace Sys2Proof.Machine

/-! ## What the accumulator operations write -/

variable (s : State) (op : AluOp) (v : Byte)

@[simp] theorem State.accumulate_f :
    (s.accumulate op v).f = (alu8 op s.a v s.flags.c).fl.toByte := by
  cases op <;> exact State.setFlags_f _ _

theorem State.accumulate_a (h : op ≠ .cp) : (s.accumulate op v).a = (alu8 op s.a v s.flags.c).val := by
  cases op <;> first | rfl | exact absurd rfl h

@[simp] theorem State.accumulate_sp : (s.accumulate op v).sp = s.sp := by cases op <;> rfl
@[simp] theorem State.accumulate_pc : (s.accumulate op v).pc = s.pc := by cases op <;> rfl
@[simp] theorem State.accumulate_mode : (s.accumulate op v).mode = s.mode := by cases op <;> rfl
@[simp] theorem State.accumulate_ime : (s.accumulate op v).ime = s.ime := by cases op <;> rfl
@[simp] theorem State.accumulate_mem : (s.accumulate op v).mem = s.mem := by cases op <;> rfl

theorem State.accumulate_frame : Frame s (s.accumulate op v) [.a] [] := by
  cases op
  case cp => exact Frame.setFlags (s := s) (t := s) ⟨fun _ _ => rfl, fun _ _ => rfl, rfl, rfl⟩ _
  all_goals exact Frame.setFlags (s := s) (State.setLoc_frame s (.reg .a) _) _

/-! ## Addresses -/

/-- The high page as a sum of numbers (R89). -/
theorem highAddress_eq (x : Byte) : highAddress x = BitVec.ofNat 16 (0xFF00 + x.toNat) := by
  apply BitVec.eq_of_toNat_eq
  simp [highAddress, Config.highPage]

/-- SP plus a displacement as a sum of integers (R172). -/
theorem spAdd_eq (sp : Word) (e : Byte) : spAdd sp e = BitVec.ofInt 16 (sp.toNat + e.toInt) := by
  unfold spAdd sext16
  apply BitVec.eq_of_toInt_eq
  rw [BitVec.toInt_add, BitVec.toInt_signExtend_of_le (by omega), BitVec.toInt_ofInt]
  simp only [BitVec.toInt_eq_toNat_bmod sp]
  simp

/-- The target of a relative jump as a sum of integers (R284). -/
theorem State.relTarget_eq (e : Byte) : s.relTarget e = BitVec.ofInt 16 (s.pc.toNat + 2 + e.toInt) := by
  have h := spAdd_eq (s.nextPc 2) e
  unfold spAdd at h
  unfold State.relTarget
  rw [h]
  apply BitVec.eq_of_toInt_eq
  rw [BitVec.toInt_ofInt, BitVec.toInt_ofInt]
  simp only [State.nextPc, BitVec.toNat_add, BitVec.toNat_ofNat]
  have h2 : (((s.pc.toNat + 2 % 2 ^ 16) % 2 ^ 16 : Nat) : Int) =
      ((s.pc.toNat : Int) + 2) % ((2 ^ 16 : Nat) : Int) := by simp
  rw [h2, Int.emod_add_bmod]

/-- No address above 0xFFFF is listed in a canonical memory (R50). -/
theorem Memory.read_above {low a : Nat} (ha : 0xFFFF < a) :
    ∀ {m : Memory}, Memory.wfFrom low m = true → m.read a = Config.memoryReset
  | [], _ => rfl
  | (k, v) :: rest, h => by
    rw [Memory.wfFrom_cons] at h
    have hk : k ≤ 0xFFFF := h.2.1
    rw [Memory.read_cons, if_neg (by omega)]
    exact Memory.read_above ha h.2.2.2

end Sys2Proof.Machine
end

