-- ==== Sys2Proof/Tests/Slice0.lean ====
section
/-! SUPPORT. The model's own tests: well-formedness, decoding of words written out from the opcode maps R93 and R94,
vectors of 95_test_vectors.md, one or two an instruction shape, and for every obligation with hypotheses a witness
that meets them. -/

namespace Sys2Proof.Tests.Slice0

open Sys2Proof Sys2Proof.Machine

/-! ## Helpers -/

/-- The state with the listed bytes of memory written. -/
def poke (s : State) : List (Word × Byte) → State
  | [] => s
  | (a, v) :: rest => poke (s.write a v) rest

/-- The state with an instruction's bytes at PC and the listed bytes of memory written before them. -/
def holding (s : State) (bytes : List Byte) (cells : List (Word × Byte)) : State :=
  (poke s cells).writeBytes s.pc bytes

/-- The step of a state answers the state that `expected` gives, with the cost. -/
def stepsTo (s : State) (expected : State → State) (cost : Nat) : Bool :=
  match step s with
  | .next t => decide (t = expected s) && decide (stepCost s = some cost)
  | _ => false

/-- The step of a state fails with the failure and reports no cost. -/
def stepFails (s : State) (f : Fault) : Bool :=
  match step s with
  | .fault g => decide (g = f) && decide (stepCost s = none)
  | _ => false

/-- The decoder gives the instruction and consumes every byte. -/
def decodesTo (bytes : List Byte) (i : Instr) : Bool :=
  match decode bytes with
  | .ok (j, rest) => decide (j = i) && rest.isEmpty
  | .error _ => false

/-! ## Well-formedness: every check refuses its ill-formed terms -/

/-- The table-entry check refuses each of the eleven illegal rows (R99). -/
theorem test_illegal_rows_are_ill_formed :
    ([.illegalD3, .illegalDB, .illegalDD, .illegalE3, .illegalE4, .illegalEB, .illegalEC, .illegalED, .illegalF4,
      .illegalFC, .illegalFD] : List Instr).all (fun i => !i.hasTableEntry && !i.wellFormed) = true := by decide

/-- The whole-instruction check refuses the escape byte without its sub-opcode (R306). -/
theorem test_escape_row_is_ill_formed :
    (!Instr.prefixCb.isWhole && !Instr.prefixCb.wellFormed) = true := by decide

/-- Every operand value is admitted: STOP with a second byte 0xCB, LD (a16),SP at the top of memory (R302, R174). -/
theorem test_every_operand_is_well_formed :
    ((Instr.stop 0xCB).wellFormed && (Instr.ldAtA16Sp 0xFFFF).wellFormed) = true := by decide

/-! ## Decoding: words written out bit by bit from R81, R91, R93 and R94 -/

/-- 8-bit loads: 01 dst src, 00 dst 110 d8, and the accumulator cells (R93). -/
theorem test_decode_8bit_loads :
    (decodesTo [0b01110001] .ldAtHlC && decodesTo [0b01000110] .ldBAtHl && decodesTo [0b00110110, 0x9A] (.ldAtHlD8 0x9A)
      && decodesTo [0x0A] .ldAAtBc && decodesTo [0x32] .ldAtHlDecA && decodesTo [0xE0, 0x80] (.ldhAtA8A 0x80)
      && decodesTo [0xF2] .ldAAtC && decodesTo [0xFA, 0x34, 0x12] (.ldAAtA16 0x1234)) = true := by decide

/-- 16-bit loads and the stack: 00 rp 0001, 11 rp2 0001 and 11 rp2 0101 (R93). -/
theorem test_decode_16bit_loads :
    (decodesTo [0b00110001, 0xFE, 0xFF] (.ldSpD16 0xFFFE) && decodesTo [0x08, 0x00, 0xC0] (.ldAtA16Sp 0xC000)
      && decodesTo [0xF9] .ldSpHl && decodesTo [0xF8, 0x80] (.ldHlSpE8 0x80) && decodesTo [0b11010001] .popDe
      && decodesTo [0b11100101] .pushHl) = true := by decide

/-- 8-bit arithmetic: 10 op src, 11 op 110, 00 dst 10x, and the accumulator cells (R93). -/
theorem test_decode_8bit_arithmetic :
    (decodesTo [0b10011110] .sbcAAtHl && decodesTo [0b10111011] .cpE && decodesTo [0b11101110, 0x0F] (.xorD8 0x0F)
      && decodesTo [0b00110100] .incAtHl && decodesTo [0b00001101] .decC && decodesTo [0x27] .daa
      && decodesTo [0x2F] .cpl && decodesTo [0x37] .scf && decodesTo [0x3F] .ccf) = true := by decide

/-- 16-bit arithmetic: 00 rp 0011, 00 rp 1011, 00 rp 1001 (R93). -/
theorem test_decode_16bit_arithmetic :
    (decodesTo [0b00010011] .incDe && decodesTo [0b00111011] .decSp && decodesTo [0b00101001] .addHlHl
      && decodesTo [0xE8, 0xFE] (.addSpE8 0xFE)) = true := by decide

/-- Rotates and bits: the four base cells, and the extended space xx yyy zzz (R93, R94). -/
theorem test_decode_rotates_and_bits :
    (decodesTo [0x07] .rlca && decodesTo [0x1F] .rra && decodesTo [0xCB, 0b00001110] .rrcAtHl
      && decodesTo [0xCB, 0b00111000] .srlB && decodesTo [0xCB, 0b01101111] .bit5A
      && decodesTo [0xCB, 0b10011101] .res3L && decodesTo [0xCB, 0b11001011] .set1E) = true := by decide

/-- Control transfer: 110cc010, 001cc000, 110cc100, 110cc000, 11yyy111 (R93). -/
theorem test_decode_control :
    (decodesTo [0b11010010, 0x00, 0x20] (.jpNcA16 0x2000) && decodesTo [0xE9] .jpHl
      && decodesTo [0b00101000, 0xFC] (.jrZE8 0xFC) && decodesTo [0b11001100, 0x00, 0x40] (.callZA16 0x4000)
      && decodesTo [0xCD, 0x00, 0x40] (.callA16 0x4000) && decodesTo [0b11011000] .retC && decodesTo [0xC9] .ret
      && decodesTo [0xD9] .reti && decodesTo [0b11101111] .rst28) = true := by decide

/-- System instructions, an illegal value, and the escape byte standing alone (R92, R93, R99). -/
theorem test_decode_system :
    (decodesTo [0x00] .nop && decodesTo [0x76] .halt && decodesTo [0x10, 0x00] (.stop 0x00) && decodesTo [0xF3] .di
      && decodesTo [0xFB] .ei && decodesTo [0xED] .illegalED && decodesTo [0xCB] .prefixCb) = true := by decide

/-- The opcode table's own numbering: an extended row has the escape byte high, PREFIX CB is a row of one byte, and the
operand bits a row does not give are 0 (the opening of 30_encoding.md). -/
theorem test_table_words :
    decodeTableWord 16 0xCB37 = some .swapA ∧ decodeTableWord 8 0xCB = some .prefixCb ∧
    decodeTableWord 8 0x01 = some (.ldBcD16 0) ∧ decodeTableWord 16 0x053E = some (.ldAD8 5) ∧
    decodeTableWord 24 0x1000C3 = some (.jpA16 0x1000) := by decide

/-- The host's placing: right after reset the table's word runs as the first instruction, and so it does where it has
to move PC to fit. -/
theorem test_placed_word_runs_first :
    (stepsTo (State.reset.withFetchWord 8 0x3C) (fun s => { s with a := 1, f := 0, pc := 1 }) 4
      && stepsTo (({ State.reset with pc := 0xFFFE, mode := .halted } : State).withFetchWord 16 0xCB37)
        (fun s => { s with f := 0x80, pc := 2 }) 8) = true := by decide

/-! ## One step on a small state, by the vectors of 95_test_vectors.md -/

/-- Vector V40-1 of 95_test_vectors.md (R121). -/
theorem test_1_byte_instruction_at_0xffff_pc_wraps :
    stepsTo (holding { State.reset with pc := 0xFFFF } [0x00] [])
      (fun s => { s with pc := 0x0000 }) 4 = true := by decide

/-- Vector V40-2 of 95_test_vectors.md (R126). -/
theorem test_2_byte_instruction_at_0xfffe_does_not_fail :
    stepsTo (holding { State.reset with pc := 0xFFFE } [0x3E, 0x77] [])
      (fun s => { s with a := 0x77, pc := 0x0000 }) 8 = true := by decide

/-- Vector V40-3 of 95_test_vectors.md (R126). -/
theorem test_operand_byte_at_0x10000 :
    stepFails (holding { State.reset with a := 0x12, pc := 0xFFFF } [0x3E] [])
      (.outOfRangeAddress 0x10000) = true := by decide

/-- Vector V40-4 of 95_test_vectors.md (R126). -/
theorem test_3_byte_at_0xfffe :
    stepFails (holding { State.reset with pc := 0xFFFE } [0xC3, 0x00] [])
      (.outOfRangeAddress 0x10000) = true := by decide

/-- Vector V40-5 of 95_test_vectors.md (R124). -/
theorem test_prefix_at_0xffff :
    stepFails (holding { State.reset with pc := 0xFFFF } [0xCB] [])
      (.outOfRangeAddress 0x10000) = true := by decide

/-- Vector V40-6 of 95_test_vectors.md (R122). -/
theorem test_suspended_step :
    stepsTo (holding { State.reset with pc := 0x0151, mode := .halted } [0x00] [])
      (fun s => { s with pc := 0x0151 }) 4 = true := by decide

/-- Vector V41-1 of 95_test_vectors.md (R140). -/
theorem test_ld_a_b :
    stepsTo (holding { State.reset with b := 0x42 } [0x78] [])
      (fun s => { s with a := 0x42, pc := 0x0001 }) 4 = true := by decide

/-- Vector V41-3 of 95_test_vectors.md (R141). -/
theorem test_ld_a_at_hl :
    stepsTo (holding { State.reset with h := 0xC0 } [0x7E] [(0xC000, 0x99)])
      (fun s => { s with a := 0x99, pc := 0x0001 }) 8 = true := by decide

/-- Vector V41-5 of 95_test_vectors.md (R142). -/
theorem test_ld_at_hl_h_stores_the_old_h :
    stepsTo (holding { State.reset with h := 0xC0, l := 0x12 } [0x74] [])
      (fun s => poke { s with pc := 0x0001 } [(0xC012, 0xC0)]) 8 = true := by decide

/-- Vector V41-8 of 95_test_vectors.md (R144). -/
theorem test_ld_at_hl_d8 :
    stepsTo (holding { State.reset with h := 0xD0 } [0x36, 0xA5] [])
      (fun s => poke { s with pc := 0x0002 } [(0xD000, 0xA5)]) 12 = true := by decide

/-- Vector V41-9 of 95_test_vectors.md (R145). -/
theorem test_ld_a_at_bc :
    stepsTo (holding { State.reset with b := 0xC1 } [0x0A] [(0xC100, 0x3C)])
      (fun s => { s with a := 0x3C, pc := 0x0001 }) 8 = true := by decide

/-- Vector V41-12 of 95_test_vectors.md (R148). -/
theorem test_ld_at_de_a :
    stepsTo (holding { State.reset with a := 0x22, d := 0xC2 } [0x12] [])
      (fun s => poke { s with pc := 0x0001 } [(0xC200, 0x22)]) 8 = true := by decide

/-- Vector V41-13 of 95_test_vectors.md (R149). -/
theorem test_ld_a_at_a16_little_endian_address :
    stepsTo (holding State.reset [0xFA, 0x34, 0x12] [(0x1234, 0x66)])
      (fun s => { s with a := 0x66, pc := 0x0003 }) 16 = true := by decide

/-- Vector V41-14 of 95_test_vectors.md (R150). -/
theorem test_ld_at_a16_a_at_0xffff :
    stepsTo (holding { State.reset with a := 0x1F } [0xEA, 0xFF, 0xFF] [])
      (fun s => poke { s with pc := 0x0003 } [(0xFFFF, 0x1F)]) 16 = true := by decide

/-- Vector V41-15 of 95_test_vectors.md (R151). -/
theorem test_ldh_a_at_a8 :
    stepsTo (holding State.reset [0xF0, 0x44] [(0xFF44, 0x90)])
      (fun s => { s with a := 0x90, pc := 0x0002 }) 12 = true := by decide

/-- Vector V41-16 of 95_test_vectors.md (R152). -/
theorem test_ldh_at_a8_a :
    stepsTo (holding { State.reset with a := 0x7E } [0xE0, 0x80] [])
      (fun s => poke { s with pc := 0x0002 } [(0xFF80, 0x7E)]) 12 = true := by decide

/-- Vector V41-17 of 95_test_vectors.md (R153). -/
theorem test_ld_a_at_c :
    stepsTo (holding { State.reset with c := 0x10 } [0xF2] [(0xFF10, 0x80)])
      (fun s => { s with a := 0x80, pc := 0x0001 }) 8 = true := by decide

/-- Vector V41-18 of 95_test_vectors.md (R154). -/
theorem test_ld_at_c_a_c_0xff_reaches_0xffff :
    stepsTo (holding { State.reset with a := 0x01, c := 0xFF } [0xE2] [])
      (fun s => poke { s with pc := 0x0001 } [(0xFFFF, 0x01)]) 8 = true := by decide

/-- Vector V41-19 of 95_test_vectors.md (R155). -/
theorem test_ld_hli_a_hl_wraps :
    stepsTo (holding { State.reset with a := 0xAB, h := 0xFF, l := 0xFF } [0x22] [])
      (fun s => poke { s with h := 0x00, l := 0x00, pc := 0x0001 } [(0xFFFF, 0xAB)]) 8 = true := by decide

/-- Vector V41-22 of 95_test_vectors.md (R158). -/
theorem test_ld_a_hld :
    stepsTo (holding { State.reset with h := 0xC1 } [0x3A] [(0xC100, 0x07)])
      (fun s => { s with a := 0x07, h := 0xC0, l := 0xFF, pc := 0x0001 }) 8 = true := by decide

/-- Vector V42-2 of 95_test_vectors.md (R173). -/
theorem test_ld_hl_d16_scenario_b :
    stepsTo (holding State.reset [0x21, 0x12, 0x34] [])
      (fun s => { s with h := 0x34, l := 0x12, pc := 0x0003 }) 12 = true := by decide

/-- Vector V42-3 of 95_test_vectors.md (R173). -/
theorem test_ld_sp_d16 :
    stepsTo (holding State.reset [0x31, 0xFE, 0xFF] [])
      (fun s => { s with sp := 0xFFFE, pc := 0x0003 }) 12 = true := by decide

/-- Vector V42-5 of 95_test_vectors.md (R174). -/
theorem test_ld_at_a16_sp_a16_0xfffe :
    stepsTo (holding { State.reset with sp := 0x1234 } [0x08, 0xFE, 0xFF] [])
      (fun s => poke { s with pc := 0x0003 } [(0xFFFE, 0x34), (0xFFFF, 0x12)]) 20 = true := by decide

/-- Vector V42-6 of 95_test_vectors.md (R174). -/
theorem test_ld_at_a16_sp_a16_0xffff :
    stepFails (holding { State.reset with sp := 0x1234 } [0x08, 0xFF, 0xFF] [])
      (.outOfRangeAddress 0x10000) = true := by decide

/-- Vector V42-7 of 95_test_vectors.md (R175). -/
theorem test_ld_sp_hl :
    stepsTo (holding { State.reset with h := 0xDF, l := 0xFF } [0xF9] [])
      (fun s => { s with sp := 0xDFFF, pc := 0x0001 }) 8 = true := by decide

/-- Vector V42-9 of 95_test_vectors.md (R176). -/
theorem test_ld_hl_spminus_2 :
    stepsTo (holding { State.reset with sp := 0x0005 } [0xF8, 0xFE] [])
      (fun s => { s with f := 0x30, l := 0x03, pc := 0x0002 }) 12 = true := by decide

/-- Vector V42-12 of 95_test_vectors.md (R177). -/
theorem test_push_bc_from_sp_0 :
    stepsTo (holding { State.reset with b := 0xAB, c := 0xCD } [0xC5] [])
      (fun s => poke { s with sp := 0xFFFE, pc := 0x0001 } [(0xFFFE, 0xCD), (0xFFFF, 0xAB)]) 16 = true := by decide

/-- Vector V42-15 of 95_test_vectors.md (R178). -/
theorem test_pop_hl_from_sp_0xffff :
    stepsTo (holding { State.reset with sp := 0xFFFF, pc := 0x0100 } [0xE1] [(0x0000, 0x00), (0xFFFF, 0x78)])
      (fun s => { s with l := 0x78, sp := 0x0001, pc := 0x0101 }) 12 = true := by decide

/-- Vector V42-16 of 95_test_vectors.md (R179). -/
theorem test_pop_af :
    stepsTo (holding { State.reset with sp := 0xC000 } [0xF1] [(0xC000, 0xFF), (0xC001, 0x5A)])
      (fun s => { s with a := 0x5A, f := 0xF0, sp := 0xC002, pc := 0x0001 }) 12 = true := by decide

/-- Vector V43-1 of 95_test_vectors.md (R196). -/
theorem test_add_a_b :
    stepsTo (holding { State.reset with a := 0x3A, b := 0xC6 } [0x80] [])
      (fun s => { s with a := 0x00, f := 0xB0, pc := 0x0001 }) 4 = true := by decide

/-- Vector V43-6 of 95_test_vectors.md (R200). -/
theorem test_adc_a_at_hl_with_c_1 :
    stepsTo (holding { State.reset with a := 0xE1, f := 0x10, h := 0xC0 } [0x8E] [(0xC000, 0x1E)])
      (fun s => { s with a := 0x00, f := 0xB0, pc := 0x0001 }) 8 = true := by decide

/-- Vector V43-8 of 95_test_vectors.md (R201). -/
theorem test_adc_a_0xff_with_c_1 :
    stepsTo (holding { State.reset with f := 0x10 } [0xCE, 0xFF] [])
      (fun s => { s with f := 0xB0, pc := 0x0002 }) 8 = true := by decide

/-- Vector V43-10 of 95_test_vectors.md (R203). -/
theorem test_sub_at_hl :
    stepsTo (holding { State.reset with a := 0x3E, h := 0xC0 } [0x96] [(0xC000, 0x0F)])
      (fun s => { s with a := 0x2F, f := 0x60, pc := 0x0001 }) 8 = true := by decide

/-- Vector V43-13 of 95_test_vectors.md (R206). -/
theorem test_sbc_a_at_hl_with_c_1 :
    stepsTo (holding { State.reset with a := 0x3B, f := 0x10, h := 0xC0, l := 0x4F } [0x9E] [(0xC04F, 0x4F)])
      (fun s => { s with a := 0xEB, f := 0x70, pc := 0x0001 }) 8 = true := by decide

/-- Vector V43-16 of 95_test_vectors.md (R209). -/
theorem test_and_at_hl :
    stepsTo (holding { State.reset with a := 0x5A, h := 0xC0 } [0xA6] [(0xC000, 0xA5)])
      (fun s => { s with a := 0x00, f := 0xA0, pc := 0x0001 }) 8 = true := by decide

/-- Vector V43-18 of 95_test_vectors.md (R211). -/
theorem test_xor_a_scenario_d :
    stepsTo (holding { State.reset with a := 0x7F } [0xAF] [])
      (fun s => { s with a := 0x00, f := 0x80, pc := 0x0001 }) 4 = true := by decide

/-- Vector V43-23 of 95_test_vectors.md (R216). -/
theorem test_or_0xff :
    stepsTo (holding State.reset [0xF6, 0xFF] [])
      (fun s => { s with a := 0xFF, pc := 0x0002 }) 8 = true := by decide

/-- Vector V43-24 of 95_test_vectors.md (R217). -/
theorem test_cp_b :
    stepsTo (holding { State.reset with a := 0x3C, b := 0x2F } [0xB8] [])
      (fun s => { s with f := 0x60, pc := 0x0001 }) 4 = true := by decide

/-- Vector V43-27 of 95_test_vectors.md (R220). -/
theorem test_inc_a_from_0xff :
    stepsTo (holding { State.reset with a := 0xFF, f := 0x10 } [0x3C] [])
      (fun s => { s with a := 0x00, f := 0xB0, pc := 0x0001 }) 4 = true := by decide

/-- Vector V43-31 of 95_test_vectors.md (R222). -/
theorem test_dec_b_from_0x00 :
    stepsTo (holding { State.reset with f := 0x10 } [0x05] [])
      (fun s => { s with f := 0x70, b := 0xFF, pc := 0x0001 }) 4 = true := by decide

/-- Vector V43-32 of 95_test_vectors.md (R223). -/
theorem test_dec_at_hl :
    stepsTo (holding { State.reset with h := 0xC0 } [0x35] [(0xC000, 0x00)])
      (fun s => poke { s with f := 0x60, pc := 0x0001 } [(0xC000, 0xFF)]) 12 = true := by decide

/-- Vector V43-34 of 95_test_vectors.md (R224). -/
theorem test_daa_after_0x83_0x27_0x5c_n_1_h_1 :
    stepsTo (holding { State.reset with a := 0x5C, f := 0x60 } [0x27] [])
      (fun s => { s with a := 0x56, f := 0x40, pc := 0x0001 }) 4 = true := by decide

/-- Vector V43-36 of 95_test_vectors.md (R224). -/
theorem test_daa_with_a_0x00_c_1_after_0x99_0x67 :
    stepsTo (holding { State.reset with f := 0x30 } [0x27] [])
      (fun s => { s with a := 0x66, f := 0x10, pc := 0x0001 }) 4 = true := by decide

/-- Vector V43-38 of 95_test_vectors.md (R225). -/
theorem test_cpl_of_0xff :
    stepsTo (holding { State.reset with a := 0xFF } [0x2F] [])
      (fun s => { s with a := 0x00, f := 0x60, pc := 0x0001 }) 4 = true := by decide

/-- Vector V43-39 of 95_test_vectors.md (R226). -/
theorem test_scf :
    stepsTo (holding { State.reset with f := 0xE0 } [0x37] [])
      (fun s => { s with f := 0x90, pc := 0x0001 }) 4 = true := by decide

/-- Vector V43-41 of 95_test_vectors.md (R227). -/
theorem test_ccf_with_c_0 :
    stepsTo (holding { State.reset with f := 0x60 } [0x3F] [])
      (fun s => { s with f := 0x10, pc := 0x0001 }) 4 = true := by decide

/-- Vector V44-1 of 95_test_vectors.md (R230). -/
theorem test_inc_bc_wraps :
    stepsTo (holding { State.reset with f := 0xF0, b := 0xFF, c := 0xFF } [0x03] [])
      (fun s => { s with b := 0x00, c := 0x00, pc := 0x0001 }) 8 = true := by decide

/-- Vector V44-4 of 95_test_vectors.md (R231). -/
theorem test_dec_sp_wraps :
    stepsTo (holding State.reset [0x3B] [])
      (fun s => { s with sp := 0xFFFF, pc := 0x0001 }) 8 = true := by decide

/-- Vector V44-5 of 95_test_vectors.md (R232). -/
theorem test_add_hl_de :
    stepsTo (holding { State.reset with d := 0x06, e := 0x05, h := 0x8A, l := 0x23 } [0x19] [])
      (fun s => { s with f := 0x20, h := 0x90, l := 0x28, pc := 0x0001 }) 8 = true := by decide

/-- Vector V44-8 of 95_test_vectors.md (R232). -/
theorem test_add_hl_bc :
    stepsTo (holding { State.reset with f := 0x80, b := 0x0F, c := 0xFF, h := 0x10 } [0x09] [])
      (fun s => { s with h := 0x1F, l := 0xFF, pc := 0x0001 }) 8 = true := by decide

/-- Vector V44-10 of 95_test_vectors.md (R233). -/
theorem test_add_sp_minus_2 :
    stepsTo (holding { State.reset with sp := 0x0005 } [0xE8, 0xFE] [])
      (fun s => { s with f := 0x30, sp := 0x0003, pc := 0x0002 }) 16 = true := by decide

/-- Vector V45-1 of 95_test_vectors.md (R248). -/
theorem test_rlca :
    stepsTo (holding { State.reset with a := 0x85 } [0x07] [])
      (fun s => { s with a := 0x0B, f := 0x10, pc := 0x0001 }) 4 = true := by decide

/-- Vector V45-2 of 95_test_vectors.md (R248). -/
theorem test_rlca_of_0 :
    stepsTo (holding { State.reset with f := 0x80 } [0x07] [])
      (fun s => { s with f := 0x00, pc := 0x0001 }) 4 = true := by decide

/-- Vector V45-3 of 95_test_vectors.md (R249). -/
theorem test_rrca :
    stepsTo (holding { State.reset with a := 0x3B } [0x0F] [])
      (fun s => { s with a := 0x9D, f := 0x10, pc := 0x0001 }) 4 = true := by decide

/-- Vector V45-4 of 95_test_vectors.md (R250). -/
theorem test_rla_with_c_1 :
    stepsTo (holding { State.reset with a := 0x95, f := 0x10 } [0x17] [])
      (fun s => { s with a := 0x2B, pc := 0x0001 }) 4 = true := by decide

/-- Vector V45-5 of 95_test_vectors.md (R251). -/
theorem test_rra_with_c_0 :
    stepsTo (holding { State.reset with a := 0x81 } [0x1F] [])
      (fun s => { s with a := 0x40, f := 0x10, pc := 0x0001 }) 4 = true := by decide

/-- Vector V45-8 of 95_test_vectors.md (R253). -/
theorem test_rlc_at_hl :
    stepsTo (holding { State.reset with h := 0xC0 } [0xCB, 0x06] [(0xC000, 0x85)])
      (fun s => poke { s with f := 0x10, pc := 0x0002 } [(0xC000, 0x0B)]) 16 = true := by decide

/-- Vector V45-9 of 95_test_vectors.md (R254). -/
theorem test_rrc_a_of_0x01_8 :
    stepsTo (holding { State.reset with a := 0x01 } [0xCB, 0x0F] [])
      (fun s => { s with a := 0x80, f := 0x10, pc := 0x0002 }) 8 = true := by decide

/-- Vector V45-12 of 95_test_vectors.md (R257). -/
theorem test_rl_at_hl_with_c_1 :
    stepsTo (holding { State.reset with f := 0x10, h := 0xC0 } [0xCB, 0x16] [(0xC000, 0x11)])
      (fun s => poke { s with f := 0x00, pc := 0x0002 } [(0xC000, 0x23)]) 16 = true := by decide

/-- Vector V45-13 of 95_test_vectors.md (R258). -/
theorem test_rr_c_with_c_1 :
    stepsTo (holding { State.reset with f := 0x10, c := 0x01 } [0xCB, 0x19] [])
      (fun s => { s with c := 0x80, pc := 0x0002 }) 8 = true := by decide

/-- Vector V45-15 of 95_test_vectors.md (R260). -/
theorem test_sla_d :
    stepsTo (holding { State.reset with d := 0x80 } [0xCB, 0x22] [])
      (fun s => { s with f := 0x90, d := 0x00, pc := 0x0002 }) 8 = true := by decide

/-- Vector V45-17 of 95_test_vectors.md (R262). -/
theorem test_sra_a_keeps_bit_7 :
    stepsTo (holding { State.reset with a := 0x8A } [0xCB, 0x2F] [])
      (fun s => { s with a := 0xC5, pc := 0x0002 }) 8 = true := by decide

/-- Vector V45-19 of 95_test_vectors.md (R264). -/
theorem test_swap_a_of_0xab_8 :
    stepsTo (holding { State.reset with a := 0xAB, f := 0x70 } [0xCB, 0x37] [])
      (fun s => { s with a := 0xBA, f := 0x00, pc := 0x0002 }) 8 = true := by decide

/-- Vector V45-23 of 95_test_vectors.md (R266). -/
theorem test_srl_b_clears_bit_7 :
    stepsTo (holding { State.reset with b := 0xFF } [0xCB, 0x38] [])
      (fun s => { s with f := 0x10, b := 0x7F, pc := 0x0002 }) 8 = true := by decide

/-- Vector V46-1 of 95_test_vectors.md (R270). -/
theorem test_bit_7_h_set :
    stepsTo (holding { State.reset with f := 0x10, h := 0x80 } [0xCB, 0x7C] [])
      (fun s => { s with f := 0x30, pc := 0x0002 }) 8 = true := by decide

/-- Vector V46-4 of 95_test_vectors.md (R271). -/
theorem test_bit_0_at_hl :
    stepsTo (holding { State.reset with h := 0xC0 } [0xCB, 0x46] [(0xC000, 0x01)])
      (fun s => { s with f := 0x20, pc := 0x0002 }) 12 = true := by decide

/-- Vector V46-5 of 95_test_vectors.md (R272). -/
theorem test_res_0_a_flags_kept :
    stepsTo (holding { State.reset with a := 0xFF, f := 0xF0 } [0xCB, 0x87] [])
      (fun s => { s with a := 0xFE, pc := 0x0002 }) 8 = true := by decide

/-- Vector V46-9 of 95_test_vectors.md (R274). -/
theorem test_set_1_e_sub_opcode_0xcb_is_not_a_prefix :
    stepsTo (holding State.reset [0xCB, 0xCB] [])
      (fun s => { s with e := 0x02, pc := 0x0002 }) 8 = true := by decide

/-- Vector V47-1 of 95_test_vectors.md (R281). -/
theorem test_jp_a16_scenario_c :
    stepsTo (holding State.reset [0xC3, 0x00, 0x10] [])
      (fun s => { s with pc := 0x1000 }) 16 = true := by decide

/-- Vector V47-2 of 95_test_vectors.md (R282). -/
theorem test_jp_nz_taken :
    stepsTo (holding { State.reset with pc := 0x0100 } [0xC2, 0x00, 0x20] [])
      (fun s => { s with pc := 0x2000 }) 16 = true := by decide

/-- Vector V47-3 of 95_test_vectors.md (R282). -/
theorem test_jp_nz_not_taken :
    stepsTo (holding { State.reset with f := 0x80, pc := 0x0100 } [0xC2, 0x00, 0x20] [])
      (fun s => { s with pc := 0x0103 }) 12 = true := by decide

/-- Vector V47-5 of 95_test_vectors.md (R283). -/
theorem test_jp_hl :
    stepsTo (holding { State.reset with h := 0xC0 } [0xE9] [])
      (fun s => { s with pc := 0xC000 }) 4 = true := by decide

/-- Vector V47-7 of 95_test_vectors.md (R284). -/
theorem test_jr_minus_128 :
    stepsTo (holding { State.reset with pc := 0x0200 } [0x18, 0x80] [])
      (fun s => { s with pc := 0x0182 }) 12 = true := by decide

/-- Vector V47-9 of 95_test_vectors.md (R284). -/
theorem test_jr_from_0xfffe_wraps :
    stepsTo (holding { State.reset with pc := 0xFFFE } [0x18, 0x05] [])
      (fun s => { s with pc := 0x0005 }) 12 = true := by decide

/-- Vector V47-11 of 95_test_vectors.md (R285). -/
theorem test_jr_nz_not_taken :
    stepsTo (holding { State.reset with f := 0x80, pc := 0x0206 } [0x20, 0xFC] [])
      (fun s => { s with pc := 0x0208 }) 8 = true := by decide

/-- Vector V47-13 of 95_test_vectors.md (R286). -/
theorem test_call :
    stepsTo (holding { State.reset with sp := 0xFFFE, pc := 0x0150 } [0xCD, 0x00, 0x40] [])
      (fun s => poke { s with sp := 0xFFFC, pc := 0x4000 } [(0xFFFC, 0x53), (0xFFFD, 0x01)]) 24 = true := by decide

/-- Vector V47-14 of 95_test_vectors.md (R287). -/
theorem test_call_nz_not_taken :
    stepsTo (holding { State.reset with f := 0x80, sp := 0xFFFE, pc := 0x0150 } [0xC4, 0x00, 0x40] [])
      (fun s => { s with pc := 0x0153 }) 12 = true := by decide

/-- Vector V47-16 of 95_test_vectors.md (R288). -/
theorem test_ret :
    stepsTo (holding { State.reset with sp := 0xFFFC, pc := 0x4000 } [0xC9] [(0xFFFC, 0x53), (0xFFFD, 0x01)])
      (fun s => { s with sp := 0xFFFE, pc := 0x0153 }) 16 = true := by decide

/-- Vector V47-17 of 95_test_vectors.md (R289). -/
theorem test_ret_z_taken :
    stepsTo (holding { State.reset with f := 0x80, sp := 0xFFFC, pc := 0x4000 } [0xC8] [(0xFFFC, 0x53), (0xFFFD, 0x01)])
      (fun s => { s with sp := 0xFFFE, pc := 0x0153 }) 20 = true := by decide

/-- Vector V47-19 of 95_test_vectors.md (R290). -/
theorem test_reti_sets_ime :
    stepsTo (holding { State.reset with sp := 0xFFFC, pc := 0x0040 } [0xD9] [(0xFFFC, 0x51), (0xFFFD, 0x01)])
      (fun s => { s with sp := 0xFFFE, pc := 0x0151, ime := true }) 16 = true := by decide

/-- Vector V47-20 of 95_test_vectors.md (R291). -/
theorem test_rst_38h :
    stepsTo (holding { State.reset with sp := 0xFFFE, pc := 0x0200 } [0xFF] [])
      (fun s => poke { s with sp := 0xFFFC, pc := 0x0038 } [(0xFFFC, 0x01), (0xFFFD, 0x02)]) 16 = true := by decide

/-- Vector V48-1 of 95_test_vectors.md (R300). -/
theorem test_nop :
    stepsTo (holding State.reset [0x00] [])
      (fun s => { s with pc := 0x0001 }) 4 = true := by decide

/-- Vector V48-2 of 95_test_vectors.md (R301). -/
theorem test_halt :
    stepsTo (holding { State.reset with pc := 0x0150 } [0x76] [])
      (fun s => { s with pc := 0x0151, mode := .halted }) 4 = true := by decide

/-- Vector V48-4 of 95_test_vectors.md (R302). -/
theorem test_stop_ignores_a_second_byte_0xcb :
    stepsTo (holding { State.reset with pc := 0x0200 } [0x10, 0xCB] [])
      (fun s => { s with pc := 0x0202, mode := .stopped }) 4 = true := by decide

/-- Vector V48-5 of 95_test_vectors.md (R302). -/
theorem test_stop_at_0xffff :
    stepFails (holding { State.reset with pc := 0xFFFF } [0x10] [])
      (.outOfRangeAddress 0x10000) = true := by decide

/-- Vector V48-6 of 95_test_vectors.md (R303). -/
theorem test_di :
    stepsTo (holding { State.reset with ime := true } [0xF3] [])
      (fun s => { s with pc := 0x0001, ime := false }) 4 = true := by decide

/-- Vector V48-7 of 95_test_vectors.md (R304). -/
theorem test_ei :
    stepsTo (holding State.reset [0xFB] [])
      (fun s => { s with pc := 0x0001, ime := true }) 4 = true := by decide

/-- Vector V48-8 of 95_test_vectors.md (R305). -/
theorem test_illegal_opcode :
    stepFails (holding { State.reset with a := 0x12, pc := 0x0300 } [0xD3] [])
      (.unimplementedOpcode 0xD3 0x0300) = true := by decide

/-- Vector V48-9 of 95_test_vectors.md (R305). -/
theorem test_illegal_opcode_at_0xffff :
    stepFails (holding { State.reset with pc := 0xFFFF } [0xFD] [])
      (.unimplementedOpcode 0xFD 0xFFFF) = true := by decide

/-! ## Witnesses: for every obligation with hypotheses, states and operands that meet them -/

/-- A Running state whose every register is its own value, at PC = 0xFFFD, with a written byte. -/
def sample : State :=
  { a := 0x91, f := 0xD0, b := 0x12, c := 0x34, d := 0x56, e := 0x78, h := 0xC0, l := 0x00
    sp := 0xFFFE, pc := 0xFFFD, mode := .running, ime := true, mem := [(0xC000, 0x5A)] }

theorem witness_DecodingAnEncodedInstructionGivesItBack :
    (Instr.ldAtA16Sp 0xFFFF).isWhole = true ∧ Instr.illegalFD.isWhole = true := by decide

theorem witness_DecodedBytesAreTheEncoding :
    decode [0x10, 0xCB, 0xCB] = .ok (.stop 0xCB, [0xCB]) ∧ decode [0xCB] = .ok (.prefixCb, []) := ⟨rfl, rfl⟩

/-- A length of each kind, and an opcode without one. -/
theorem witness_LengthComesFromTheFirstByte :
    decode [0xCB, 0xFF] = .ok (.set7A, []) ∧ lengthOf 0xCB = some 2 ∧
    decode [0x00, 0xFF] = .ok (.nop, [0xFF]) ∧ lengthOf 0x00 = some 1 ∧
    decode [0x01, 0x02, 0x03] = .ok (.ldBcD16 0x0302, []) ∧ lengthOf 0x01 = some 3 ∧
    decode [0xFD, 0x00] = .ok (.illegalFD, [0x00]) ∧ lengthOf 0xFD = none ∧ (0xFD : Byte) ∈ illegalOpcodes :=
  ⟨rfl, rfl, rfl, rfl, rfl, rfl, rfl, rfl, by decide⟩

/-- A three-byte instruction whose last byte is at 0xFFFF, a two-byte one, and a one-byte one. -/
theorem witness_StepRunsTheDecodedInstruction :
    (let s := holding sample [0xC3, 0x00, 0x10] []
     s.mode = .running ∧ s.pc.toNat ≤ 0xFFFD ∧
       decode [s.read s.pc, s.read (s.pc + 1), s.read (s.pc + 2)] = .ok (.jpA16 0x1000, [])) ∧
    (let s := holding { sample with pc := 0xFFFE } [0x3E, 0x77] []
     s.pc.toNat = 0xFFFE ∧ decode [s.read s.pc, s.read (s.pc + 1)] = .ok (.ldAD8 0x77, [])) ∧
    (let s := holding { sample with pc := 0xFFFF } [0x76] []
     s.pc.toNat = 0xFFFF ∧ decode [s.read s.pc] = .ok (.halt, [])) :=
  ⟨⟨rfl, by decide, rfl⟩, ⟨rfl, rfl⟩, ⟨rfl, rfl⟩⟩

theorem witness_SuspendedStepChangesNothing :
    ({ sample with mode := .halted } : State).mode = .halted ∧
    ({ sample with mode := .stopped } : State).mode = .stopped := ⟨rfl, rfl⟩

/-- Each way of failing at the boundary, and beside each a state one byte away that does not fail. -/
theorem witness_StepFailsExactlyWhenTheSpecSaysSo :
    (stepFails (holding { sample with pc := 0xFFFF } [0xD3] []) (.unimplementedOpcode 0xD3 0xFFFF)
      && stepFails (holding { sample with pc := 0xFFFF } [0xCB] []) (.outOfRangeAddress 0x10000)
      && stepFails (holding { sample with pc := 0xFFFE } [0xCD] []) (.outOfRangeAddress 0x10000)
      && stepFails (holding sample [0x08, 0xFF, 0xFF] []) (.outOfRangeAddress 0x10000)
      && stepsTo (holding sample [0x08, 0xFE, 0xFF] []) (fun s =>
           poke { s with pc := 0x0000 } [(0xFFFE, 0xFE), (0xFFFF, 0xFF)]) 20
      && stepsTo (holding sample [0xCD, 0x00, 0x00] []) (fun s =>
           poke { s with pc := 0x0000, sp := 0xFFFC } [(0xFFFD, 0x00), (0xFFFC, 0x00)]) 24) = true := by decide

theorem witness_EveryInstructionCompletes :
    (Instr.ldAtA16Sp 0xFFFE).wellFormed = true ∧ (Instr.ldAtA16Sp 0xFFFE).form ≠ .ldAbsSp 0xFFFF ∧
    Instr.set7A.wellFormed = true ∧ Instr.set7A.form ≠ .ldAbsSp 0xFFFF := by decide

/-- A transfer taken and one not taken, and the wrap of PC. -/
theorem witness_PcIsTheTargetOrTheNextInstruction :
    exec (.jpCA16 0x1234) sample = .next { sample with pc := 0x1234 } ∧ sample.holdsCond .c = true ∧
    exec (.jpNzA16 0x1234) sample = .next { sample with pc := 0x0000 } ∧ sample.holdsCond .nz = false :=
  ⟨rfl, rfl, rfl, rfl⟩

/-- A suspended step, a failed one, an extended instruction, a base one without a condition, and one with its condition
true and false. -/
theorem witness_StepReportsTheTableCost :
    ({ sample with mode := .halted } : State).mode ≠ .running ∧
    step (holding sample [0xDD] []) = .fault (.unimplementedOpcode 0xDD 0xFFFD) ∧
    (let s := holding sample [0xCB, 0x46] []
     fetch s = .ok .bit0AtHl ∧ ∃ t, exec .bit0AtHl s = .next t ∧ encode .bit0AtHl = [0xCB, 0x46]) ∧
    (let s := holding sample [0x18, 0x00] []
     fetch s = .ok (.jrE8 0) ∧ ∃ t, exec (.jrE8 0) s = .next t ∧ encode (.jrE8 0) = [0x18, 0x00] ∧
       baseCycles 0x18 = some (12, 12)) ∧
    (let s := holding sample [0x38, 0x00] []
     fetch s = .ok (.jrCE8 0) ∧ ∃ t, exec (.jrCE8 0) s = .next t ∧ baseCycles 0x38 = some (12, 8) ∧
       s.holdsCond .c = true) ∧
    (let s := holding sample [0x20, 0x00] []
     fetch s = .ok (.jrNzE8 0) ∧ ∃ t, exec (.jrNzE8 0) s = .next t ∧ s.holdsCond .nz = false) :=
  ⟨by decide, rfl, ⟨rfl, _, rfl, rfl⟩, ⟨rfl, _, rfl, rfl, rfl⟩, ⟨rfl, _, rfl, rfl, rfl⟩, ⟨rfl, _, rfl, rfl⟩⟩

/-- A place that fits, with PC kept, and one that does not. -/
theorem witness_PlacedInstructionIsTheOneThatRuns :
    sample.mem.wf = true ∧ Instr.swapA.isWhole = true ∧ (encode .swapA).length + [(0x00 : Byte)].length = 3 ∧
    sample.pc.toNat ≤ 0xFFFD ∧ ¬({ sample with pc := 0xFFFE } : State).pc.toNat ≤ 0xFFFD := by decide

theorem witness_StepKeepsTheInvariant :
    (holding sample [0x34] []).Inv ∧
    step (holding sample [0x34] []) =
      .next { holding sample [0x34] [(0xC000, 0x5B)] with f := 0x10, pc := 0xFFFE } := ⟨⟨rfl, rfl⟩, rfl⟩

/-- An instruction that writes F and one that does not. -/
theorem witness_OnlyFlagInstructionsChangeF :
    exec .scf sample = .next { sample with f := 0x90, pc := 0xFFFE } ∧ writesF .scf = true ∧ Instr.scf ≠ .prefixCb ∧
    exec .halt sample = .next { sample with mode := .halted, pc := 0xFFFE } ∧ writesF .halt = false ∧
    Instr.halt ≠ .prefixCb := ⟨rfl, rfl, by decide, rfl, rfl, by decide⟩

theorem witness_OnlyNamedInstructionsChangeControlState :
    exec .nop sample = .next { sample with pc := 0xFFFE } ∧
    step { sample with mode := .stopped } = .next { sample with mode := .stopped } ∧
    ({ sample with mode := .stopped } : State).mode ≠ .running := ⟨rfl, rfl, by decide⟩

/-- Both ends of the address space from inside and from outside. -/
theorem witness_BusReadsBackWhatWasWritten :
    ((-1 : Int) < 0 ∨ 0xFFFF < (-1 : Int)) ∧ ((0x10000 : Int) < 0 ∨ 0xFFFF < (0x10000 : Int)) ∧
    (0 : Int) ≤ 0 ∧ (0 : Int) ≤ 0xFFFF ∧ (0xFFFF : Int) ≤ 0xFFFF ∧ sample.mem.wf = true ∧ (0 : Int) ≠ 0xFFFF := by decide

theorem witness_MemoryThatReadsAlikeIsTheSameData :
    sample.mem.wf = true ∧ ((sample.write 0xFFFF 1).write 0xFFFF 0).mem.wf = true ∧
    (∀ a : Word, sample.read a = { sample with a := 0 }.read a) := ⟨rfl, rfl, fun _ => rfl⟩

theorem witness_PairViewsAreTheirTwoRegisters : Pair.hl ≠ .sp ∧ Pair.bc ≠ .sp := by decide

theorem witness_InterruptEntryPushesPcAndWakes :
    ({ MachineInstance.powerOn with state := { sample with mode := .halted } } : MachineInstance).state.ime = true ∧
    MachineInstance.powerOn.state.ime = false ∧ sample.mem.wf = true := ⟨rfl, rfl, rfl⟩

theorem witness_RetiUndoesInterruptEntry :
    let t := { sample.enterInterrupt 0x0050 with a := 0, f := 0 }
    sample.mem.wf = true ∧ t.sp = (sample.enterInterrupt 0x0050).sp ∧
    t.read (sample.sp - 1) = (sample.enterInterrupt 0x0050).read (sample.sp - 1) ∧
    t.read (sample.sp - 2) = (sample.enterInterrupt 0x0050).read (sample.sp - 2) := ⟨rfl, rfl, rfl, rfl⟩

theorem witness_FailedInstanceTakesNoFurtherStep :
    (let m : MachineInstance := { state := holding sample [0x00] [], failure := none, cycles := 8 }
     m.failure = none ∧ step m.state = .next { holding sample [0x00] [] with pc := 0xFFFE }) ∧
    (let m : MachineInstance := { state := holding sample [0xD3] [], failure := none, cycles := 8 }
     m.failure = none ∧ step m.state = .fault (.unimplementedOpcode 0xD3 0xFFFD)) ∧
    ({ state := sample, failure := some (.outOfRangeAddress 0x10000), cycles := 0 } : MachineInstance).failure
      = some (.outOfRangeAddress 0x10000) ∧
    ((-1 : Int) < 0 ∨ 0xFFFF < (-1 : Int)) ∧ ((0x10000 : Int) < 0 ∨ 0xFFFF < (0x10000 : Int)) :=
  ⟨⟨rfl, rfl⟩, ⟨rfl, rfl⟩, rfl, by decide, by decide⟩

/-- The only fetch failures of `Row`: a two-byte instruction whose second byte, and three-byte ones whose second and
third byte, would lie past 0xFFFF. A one-byte instruction has none. -/
theorem witness_FetchFailsPastTop :
    (let u := holding { sample with pc := 0xFFFF } [0x3E] []
     u.mode = .running ∧ (encode (.ldAD8 0)).head? = some (u.read u.pc) ∧
       u.pc.toNat + (encode (.ldAD8 0)).length > Config.memorySize) ∧
    (let u := holding { sample with pc := 0xFFFE } [0xC3] []
     u.mode = .running ∧ (encode (.jpA16 0)).head? = some (u.read u.pc) ∧
       u.pc.toNat + (encode (.jpA16 0)).length > Config.memorySize) := by decide

/-- Both directions of the illegal rows, the first and the last of them, and the step at 0xFFFF. -/
theorem witness_IllegalOpcodeFailsWithItsAddress :
    Instr.illegalD3.form = .illegal 0xD3 ∧ Instr.illegalFD.form = .illegal 0xFD ∧
    (let s := holding { sample with pc := 0xFFFF } [0xFD] []
     s.mode = .running ∧ s.read s.pc = 0xFD) := by decide

/-- PC = 0xFFFF, and PC = 0xFFFE where the sub-opcode is the last byte of memory. -/
theorem witness_EscapeRunsTheExtendedInstruction :
    ({ sample with pc := 0xFFFF } : State).pc.toNat = 0xFFFF ∧
    (let s := holding { sample with pc := 0xFFFE } [0xCB, 0xCB] []
     s.pc.toNat ≠ 0xFFFF ∧ s.mode = .running ∧ s.read s.pc = 0xCB) := by decide

/-- The three kinds of LD: between registers, from and to the byte at HL. -/
theorem witness_LoadCopiesTheSourceLocation :
    Instr.ldBC.form = .ld (.reg .b) (.reg .c) ∧ Instr.ldAAtHl.form = .ld (.reg .a) .atHl ∧
    Instr.ldAtHlH.form = .ld .atHl (.reg .h) ∧ sample.mem.wf = true := by decide

theorem witness_LoadImmediateStoresTheByte :
    (Instr.ldLD8 0xFF).form = .ldImm (.reg .l) 0xFF ∧ (Instr.ldAtHlD8 0).form = .ldImm .atHl 0 ∧
    sample.mem.wf = true := by decide

theorem witness_AccumulatorLoadReadsItsAddress :
    Instr.ldAAtBc.form = .ldLoad .bc ∧ Instr.ldAAtDe.form = .ldLoad .de ∧ Instr.ldAAtHlInc.form = .ldLoad .hlInc ∧
    Instr.ldAAtHlDec.form = .ldLoad .hlDec ∧ Instr.ldAAtC.form = .ldLoad .highC := by decide

theorem witness_AccumulatorStoreWritesItsAddress :
    Instr.ldAtBcA.form = .ldStore .bc ∧ Instr.ldAtDeA.form = .ldStore .de ∧
    Instr.ldAtHlIncA.form = .ldStore .hlInc ∧ Instr.ldAtHlDecA.form = .ldStore .hlDec ∧
    Instr.ldAtCA.form = .ldStore .highC ∧ sample.mem.wf = true := by decide

theorem witness_AbsoluteAndHighPageAccessesMoveA :
    sample.mem.wf = true ∧ (0xFFFF : Word) = BitVec.ofNat 16 (0xFF00 + (0xFF : Byte).toNat) := by decide

theorem witness_SixteenBitLoadsAreByteCorrect :
    (Instr.ldBcD16 0xFFFF).form = .ldPair .bc 0xFFFF ∧ (Instr.ldDeD16 1).form = .ldPair .de 1 ∧
    (Instr.ldHlD16 0).form = .ldPair .hl 0 ∧ (Instr.ldSpD16 0).form = .ldPair .sp 0 ∧ Pair.hl ≠ .sp := by decide

/-- The last address that fails and the last one that does not. -/
theorem witness_StoreSpWritesTwoBytesOrFails :
    (0xFFFF : Word) = 0xFFFF ∧ (0xFFFE : Word) ≠ 0xFFFF ∧ sample.mem.wf = true := by decide

/-- A displacement of each sign, with SP at both ends. -/
theorem witness_SpPlusDisplacementSetsByteCarries :
    (0xFF7E : Word) = BitVec.ofInt 16 (sample.sp.toNat + (0x80 : Byte).toInt) ∧
    (0x007F : Word) = BitVec.ofInt 16 (State.reset.sp.toNat + (0x7F : Byte).toInt) ∧
    flagByte false false false true = flagByte false false
      (decide (sample.sp.toNat % 16 + (0x80 : Byte).toNat % 16 ≥ 16))
      (decide (sample.sp.toNat % 256 + (0x80 : Byte).toNat ≥ 256)) := by decide

theorem witness_PushStoresThePairBelowSp :
    Instr.pushBc.form = .push .bc ∧ Instr.pushDe.form = .push .de ∧ Instr.pushHl.form = .push .hl ∧
    Instr.pushAf.form = .push .af ∧ sample.mem.wf = true := by decide

theorem witness_PopLoadsThePairAndRaisesSp :
    Instr.popBc.form = .pop .bc ∧ Instr.popDe.form = .pop .de ∧ Instr.popHl.form = .pop .hl ∧
    Instr.popAf.form = .pop .af := by decide

/-- Both operations on a register, the byte at HL and an immediate, with the carry set. -/
theorem witness_AddAndAdcSumWithCarries :
    Instr.addAB.form = AluForm.form .add (.loc (.reg .b)) ∧ Instr.adcAAtHl.form = AluForm.form .adc (.loc .atHl) ∧
    (Instr.adcAD8 0xFF).form = AluForm.form .adc (.imm 0xFF) ∧ (decide (AluOp.adc = .adc) && sample.cf) = true := by decide

theorem witness_SubAndSbcDifferenceWithBorrows :
    Instr.subA.form = AluForm.form .sub (.loc (.reg .a)) ∧ Instr.sbcAAtHl.form = AluForm.form .sbc (.loc .atHl) ∧
    (Instr.subD8 0).form = AluForm.form .sub (.imm 0) ∧ (decide (AluOp.sbc = .sbc) && sample.cf) = true := by decide

theorem witness_LogicWorksBitByBit :
    Instr.andAtHl.form = AluForm.form .and (.loc .atHl) ∧ Instr.xorA.form = AluForm.form .xor (.loc (.reg .a)) ∧
    (Instr.orD8 0).form = AluForm.form .or (.imm 0) := by decide

theorem witness_CompareSetsFlagsOnly :
    Instr.cpE.form = AluForm.form .cp (.loc (.reg .e)) ∧ Instr.cpAtHl.form = AluForm.form .cp (.loc .atHl) ∧
    (Instr.cpD8 0x91).form = AluForm.form .cp (.imm 0x91) ∧ (AluForm.imm 0x91).value sample = sample.a := by decide

theorem witness_IncrementAndDecrementKeepCarry :
    Instr.incA.form = .inc (.reg .a) ∧ Instr.incAtHl.form = .inc .atHl ∧ Instr.decL.form = .dec (.reg .l) ∧
    Instr.decAtHl.form = .dec .atHl ∧ sample.mem.wf = true := by decide

/-- A correction of each kind: after an addition both nibbles and none, after a subtraction by H and C. -/
theorem witness_DecimalAdjustCorrectsByFlags :
    (let s := { sample with a := 0x9A, f := 0x00 }
     (if s.cf = true ∨ (s.nf = false ∧ s.a.toNat > 0x99) then 0x60 else 0) = 0x60 ∧
     (if s.hf = true ∨ (s.nf = false ∧ s.a.toNat % 16 > 9) then 0x06 else 0) = 0x06) ∧
    (let s := { sample with a := 0x99, f := 0x00 }
     (if s.cf = true ∨ (s.nf = false ∧ s.a.toNat > 0x99) then 0x60 else 0) = 0 ∧
     (if s.hf = true ∨ (s.nf = false ∧ s.a.toNat % 16 > 9) then 0x06 else 0) = 0) ∧
    (let s := { sample with a := 0x00, f := 0x70 }
     (if s.cf = true ∨ (s.nf = false ∧ s.a.toNat > 0x99) then 0x60 else 0) = 0x60 ∧
     (if s.hf = true ∨ (s.nf = false ∧ s.a.toNat % 16 > 9) then 0x06 else 0) = 0x06 ∧
     (512 + s.a.toNat - 0x60 - 0x06) % 256 = 0x9A) := by decide

/-- The largest decimal numbers, and a borrow. -/
theorem witness_DecimalAdjustMakesDecimalArithmetic :
    (let s := { sample with a := 0x99, b := 0x99 }
     s.a = BitVec.ofNat 8 (99 / 10 * 16 + 99 % 10) ∧ s.b = BitVec.ofNat 8 (99 / 10 * 16 + 99 % 10)) ∧
    (let s := { sample with a := 0x00, b := 0x01 }
     s.a = BitVec.ofNat 8 (0 / 10 * 16 + 0 % 10) ∧ s.b = BitVec.ofNat 8 (1 / 10 * 16 + 1 % 10)) := by decide

/-- SP and a register pair, up and down. -/
theorem witness_PairIncrementAndDecrementWrap :
    Instr.incSp.form = (if true = true then .incPair .sp else .decPair .sp) ∧
    Instr.decHl.form = (if false = true then .incPair .hl else .decPair .hl) ∧ Pair.hl ≠ .sp := by decide

theorem witness_AddToHlCarriesFromBits11And15 :
    Instr.addHlHl.form = .addHl .hl ∧ Instr.addHlSp.form = .addHl .sp ∧ 0xFFFE = (sample.pair .sp).toNat := by decide

theorem witness_AccumulatorRotatesClearZ : 0x91 = sample.a.toNat := by decide

theorem witness_ExtendedRotatesSetZ :
    Instr.rlcA.form = .rot .rlc (.reg .a) ∧ Instr.rrcAtHl.form = .rot .rrc .atHl ∧
    Instr.rlL.form = .rot .rl (.reg .l) ∧ Instr.rrAtHl.form = .rot .rr .atHl ∧ sample.mem.wf = true ∧
    0x5A = (sample.loc .atHl).toNat := by decide

theorem witness_ShiftsAndSwapSetZ :
    Instr.slaB.form = .rot .sla (.reg .b) ∧ Instr.sraAtHl.form = .rot .sra .atHl ∧
    Instr.swapA.form = .rot .swap (.reg .a) ∧ Instr.srlAtHl.form = .rot .srl .atHl ∧ sample.mem.wf = true ∧
    0x91 = (sample.loc (.reg .a)).toNat := by decide

theorem witness_BitTestWritesFlagsOnly :
    Instr.bit0B.form = .bit 0 (.reg .b) ∧ Instr.bit7AtHl.form = .bit 7 .atHl := by decide

theorem witness_ResetAndSetForceOneBit :
    Instr.set7AtHl.form = (if true = true then .set 7 .atHl else .res 7 .atHl) ∧
    Instr.res0B.form = (if false = true then .set 0 (.reg .b) else .res 0 (.reg .b)) ∧ sample.mem.wf = true := by decide

/-- The four conditions, two of them true and two false in `sample`. -/
theorem witness_JumpsGoExactlyToTheTarget :
    (Instr.jpNzA16 0xFFFF).form = .jpIf .nz 0xFFFF ∧ sample.holdsCond .nz = false ∧
    (Instr.jpCA16 0).form = .jpIf .c 0 ∧ sample.holdsCond .c = true := by decide

/-- The displacements -128 and +127, and a conditional form. -/
theorem witness_RelativeJumpsAddTheDisplacement :
    (0xFF7F : Word) = BitVec.ofInt 16 (sample.pc.toNat + 2 + (0x80 : Byte).toInt) ∧
    (0x007E : Word) = BitVec.ofInt 16 (sample.pc.toNat + 2 + (0x7F : Byte).toInt) ∧
    (Instr.jrNcE8 0x80).form = .jrIf .nc 0x80 ∧ (Instr.jrZE8 0x7F).form = .jrIf .z 0x7F := by decide

theorem witness_CallPushesTheReturnAddress :
    (Instr.callZA16 0x4000).form = .callIf .z 0x4000 ∧ sample.holdsCond .z = true ∧
    (Instr.callNcA16 0).form = .callIf .nc 0 ∧ sample.holdsCond .nc = false ∧ sample.mem.wf = true := by decide

theorem witness_ReturnsPopPc :
    Instr.retZ.form = .retIf .z ∧ sample.holdsCond .z = true ∧
    Instr.retNz.form = .retIf .nz ∧ sample.holdsCond .nz = false ∧
    0x0000 = joinBytes (sample.read (sample.sp + 1)) (sample.read sample.sp) := by decide

theorem witness_RestartCallsPageZero :
    Instr.rst00.form = .rst 0 ∧ Instr.rst38.form = .rst 7 ∧ sample.mem.wf = true := by decide

/-! ## The end of a run -/

/-- An instance about to run HALT at 0xFFFD, then NOP, with IME as given. -/
def aboutToHalt (ime : Bool) : MachineInstance :=
  { state := holding { sample with ime := ime } [0x76, 0x00] [], failure := none, cycles := 0 }

/-- A HALT ends the run, and later steps, host writes and an entry refused with IME = 0 leave it the end (R328, R368). -/
theorem test_halt_left_alone_ends_the_run :
    (((aboutToHalt false).endOfRun [.step, .step, .write 0xC000 0x01, .enter .timer]).map
      (fun n => (n.state.mode, n.state.pc, n.state.read 0xC000, n.cycles))) = some (.halted, 0xFFFE, 0x5A, 4) := by decide

/-- A HALT that is woken or entered later is no end; the next HALT may be (R340, R368). -/
theorem test_woken_halt_is_no_end :
    (aboutToHalt true).endOfRun [.step, .wake] = none ∧ (aboutToHalt true).endOfRun [.step, .step, .enter .vblank] = none ∧
    ((aboutToHalt true).endOfRun [.step, .wake, .step, .write 0xFFFF 0x76, .step]).map (fun n => n.state.pc)
      = some 0x0000 := by decide

/-- STOP and a failure are no ends (R340, R368). -/
theorem test_stop_and_failure_are_no_ends :
    ({ MachineInstance.powerOn with state := holding State.reset [0x10, 0x00] [] }).endOfRun [.step, .step] = none ∧
    ({ MachineInstance.powerOn with state := holding State.reset [0xD3] [] }).endOfRun [.step, .step] = none := by decide

/-- A history with an end and one without a step that is left alone. -/
theorem witness_EndOfRunIsTheFirstHaltLeftAlone :
    HaltLeftAlone (aboutToHalt true) [] [.step] ((aboutToHalt true).act .step).1 ∧
    (aboutToHalt true).endOfRun [.step, .step] = some ((aboutToHalt true).act .step).1 ∧
    (aboutToHalt true).endOfRun [.step, .wake] = none := ⟨⟨⟨4, rfl⟩, rfl, rfl⟩, by decide, by decide⟩

/-- The host's writes after the end are made in order, and one outside the address space changes nothing (R52, R68). -/
theorem test_host_writes_after_the_end :
    (let t := ((aboutToHalt false).after [.step, .write 0xC000 0x01, .step, .write 0x10000 0x02, .write 0xC000 0x03]).state
     (t.mode, t.read 0xC000, t.read 0xFFFD, t.read 0x0000)) = (.halted, 0x03, 0x76, 0x00) := by decide

/-- For each clause: a HALT about to run and left alone, later actions without a write and with one that does not name
the last address, a recorded failure, IME = 1 after a HALT, and a core that is not Halted at the end. -/
theorem witness_RunEndsAtAHaltAndStaysThere :
    (aboutToHalt true).state.mode ≠ .halted ∧
    EndsRun (aboutToHalt true) [.step] ((aboutToHalt true).act .step).1 ∧
    (aboutToHalt true).failure = none ∧ (aboutToHalt true).state.mode = .running ∧
    fetch (aboutToHalt true).state = .ok .halt ∧ ((aboutToHalt true).after [.step]).leftAlone [.step] = true ∧
    (∀ a v, HostAction.write a v ∉ [HostAction.step, .read 0]) ∧
    (∀ v, HostAction.write (0xFFFF : Word).toNat v ∉ [HostAction.write 0xC000 0x01]) ∧
    ({ aboutToHalt true with failure := some (.outOfRangeAddress 0x10000) } : MachineInstance).failure
      = some (.outOfRangeAddress 0x10000) ∧
    ((aboutToHalt true).after [.step]).state.ime = true ∧ ((aboutToHalt true).after [.step, .wake]).state.mode ≠ .halted :=
  ⟨by decide, ⟨[], [], rfl, ⟨⟨4, rfl⟩, rfl, rfl⟩, fun _ _ _ _ _ => Nat.zero_le _⟩, rfl, rfl, rfl, rfl,
    by simp, fun v h => by simp at h, rfl, rfl, by decide⟩

end Sys2Proof.Tests.Slice0
end

section
/-! PROOF. What a completed instruction and a completed step leave: the effect of the instruction's form, with PC written
besides (R121, R122, R127, R128). The proofs about every instruction at once split on the effect of a form. -/

namespace Sys2Proof.Machine

open Sys2Proof.Laws

variable {s t : State} {f : Form}

/-- What the rule of a form does to everything but PC: a conditional call or return acts only where its condition holds, and
a row that never completes (R305, R306) does nothing. -/
def State.effect (s : State) : Form → State
  | .nop | .jp _ | .jpIf _ _ | .jpHl | .jr _ | .jrIf _ _ | .illegal _ | .escape => s
  | .stop _ => { s with mode := .stopped }
  | .halt => { s with mode := .halted }
  | .di => { s with ime := false }
  | .ei => { s with ime := true }
  | .ld dst src => s.setLoc dst (s.loc src)
  | .ldImm dst d8 => s.setLoc dst d8
  | .ldLoad src => (s.setReg .a (s.read (s.accAddress src))).stepAccAddress src
  | .ldStore dst => (s.write (s.accAddress dst) s.a).stepAccAddress dst
  | .ldAbsLoad a16 => s.setReg .a (s.read a16)
  | .ldAbsStore a16 => s.write a16 s.a
  | .ldhLoad a8 => s.setReg .a (s.read (highAddress a8))
  | .ldhStore a8 => s.write (highAddress a8) s.a
  | .ldPair rp d16 => s.setPair rp d16
  | .ldAbsSp a16 => (s.write a16 (loByte s.sp)).write (a16 + 1) (hiByte s.sp)
  | .ldSpHl => s.setPair .sp s.hl
  | .ldHlSp e8 => (s.setHl (spAdd s.sp e8)).setFlags (spAddFlags s.sp e8)
  | .push rp2 => s.push16 (s.stackPair rp2)
  | .pop rp2 => s.drop16.setStackPair rp2 s.top16
  | .alu op src => s.accumulate op (s.loc src)
  | .aluImm op d8 => s.accumulate op d8
  | .inc dst => (s.setLoc dst (inc8 (s.loc dst) s.flags).val).setFlags (inc8 (s.loc dst) s.flags).fl
  | .dec dst => (s.setLoc dst (dec8 (s.loc dst) s.flags).val).setFlags (dec8 (s.loc dst) s.flags).fl
  | .daa => (s.setReg .a (daa8 s.a s.flags).val).setFlags (daa8 s.a s.flags).fl
  | .cpl => (s.setReg .a (cpl8 s.a s.flags).val).setFlags (cpl8 s.a s.flags).fl
  | .scf => s.setFlags (scfFlags s.flags)
  | .ccf => s.setFlags (ccfFlags s.flags)
  | .incPair rp => s.setPair rp (s.pair rp + 1)
  | .decPair rp => s.setPair rp (s.pair rp - 1)
  | .addHl rp => (s.setHl (add16 s.hl (s.pair rp))).setFlags (add16Flags s.hl (s.pair rp) s.flags)
  | .addSp e8 => (s.setPair .sp (spAdd s.sp e8)).setFlags (spAddFlags s.sp e8)
  | .rlca => (s.setReg .a (rotLC s.a).1).setFlags (accRotFlags (rotLC s.a))
  | .rrca => (s.setReg .a (rotRC s.a).1).setFlags (accRotFlags (rotRC s.a))
  | .rla => (s.setReg .a (rotL s.a s.flags.c).1).setFlags (accRotFlags (rotL s.a s.flags.c))
  | .rra => (s.setReg .a (rotR s.a s.flags.c).1).setFlags (accRotFlags (rotR s.a s.flags.c))
  | .rot op dst =>
    (s.setLoc dst (rotate8 op (s.loc dst) s.flags.c).1).setFlags (rotFlags (rotate8 op (s.loc dst) s.flags.c))
  | .bit b src => s.setFlags (bitFlags b (s.loc src) s.flags)
  | .res b dst => s.setLoc dst (resetBit b (s.loc dst))
  | .set b dst => s.setLoc dst (setBit b (s.loc dst))
  | .call _ => s.push16 (s.nextPc 3)
  | .callIf cc _ => if s.cond cc then s.push16 (s.nextPc 3) else s
  | .ret => s.drop16
  | .retIf cc => if s.cond cc then s.drop16 else s
  | .reti => { s.drop16 with ime := true }
  | .rst _ => s.push16 (s.nextPc 1)

/-- LD (a16),SP completes only by storing both bytes (R55, R174). -/
theorem storeSp_next {a16 : Word} (h : storeSp a16 s = .next t) : t = (s.effect (.ldAbsSp a16)).advance 3 := by
  unfold storeSp State.busWrite16 at h
  by_cases ha : a16.toNat + 1 > Config.topAddress
  · rw [if_pos ha] at h
    cases h
  · rw [if_neg ha] at h
    exact retire_next h

/-- A rule that completes leaves its form's effect, with PC written besides (R127, R128). -/
theorem formRule_next (hf : f ≠ .escape) (h : formRule f s = .next t) : ∃ pc, t = (s.effect f).jump pc := by
  cases f with
  | escape => exact absurd rfl hf
  | illegal op => cases h
  | ldAbsSp a16 => exact ⟨_, storeSp_next h⟩
  | jpIf cc a16 | jrIf cc e8 =>
    simp only [formRule, jumpIf, jumpRelIf] at h
    split at h <;> exact ⟨_, (Host.Outcome.next.inj h).symm⟩
  | callIf cc a16 | retIf cc =>
    by_cases hc : s.cond cc = true
    · simp only [formRule, callIf, retIf, State.effect, if_pos hc] at h ⊢
      exact ⟨_, (Host.Outcome.next.inj h).symm⟩
    · simp only [formRule, callIf, retIf, State.effect, if_neg hc] at h ⊢
      exact ⟨_, (Host.Outcome.next.inj h).symm⟩
  | _ => exact ⟨_, (Host.Outcome.next.inj h).symm⟩

/-- Two rows with the same bytes are the same row (R80 to R94). -/
theorem encode_injective {i j : Instr} (h : encode i = encode j) : i = j := by
  have hi := decode_encode i
  rw [h, decode_encode j] at hi
  cases hi
  rfl

/-- Two rows of the same form are the same row. -/
theorem form_injective {i j : Instr} (h : i.form = j.form) : i = j :=
  encode_injective (by rw [encode, h, encode])

/-- Whatever row completes, what it did is the effect of a row: its own, or an extended one that the escape selected
(R306). -/
theorem exec_next {i : Instr} (h : exec i s = .next t) :
    ∃ (j : Instr) (pc : Word), t = (s.effect j.form).jump pc ∧
      (j = i ∨ i = .prefixCb ∧ (encode j).head? = some Config.escapeByte) := by
  obtain ⟨j, hj, hr, hij⟩ := exec_next_cases h
  obtain ⟨pc, ht⟩ := formRule_next hj hr
  refine ⟨j, pc, ht, ?_⟩
  obtain ⟨_, rfl⟩ | ⟨hp, _, he⟩ := hij
  · exact .inl rfl
  · exact .inr ⟨hp, by rw [he]; rfl⟩

/-- A step that completes: idle while suspended, or the completed instruction that was fetched (R121, R122). -/
theorem step_next_cases (h : step s = .next t) :
    (s.mode ≠ .running ∧ t = s) ∨ (s.mode = .running ∧ ∃ i, fetch s = .ok i ∧ exec i s = .next t) := by
  by_cases hm : s.mode = .running
  · rw [step_running s hm] at h
    cases hf : fetch s with
    | ok i => exact .inr ⟨hm, i, rfl, by rwa [hf] at h⟩
    | error f => rw [hf] at h; cases h
  · rw [step_suspended s hm] at h
    exact .inl ⟨hm, (Host.Outcome.next.inj h).symm⟩

end Sys2Proof.Machine
end

section
/-! PROOF. Every step keeps the invariant (R26, R50). -/

namespace Sys2Proof.Machine

variable {s t : State}

theorem State.Inv.ite (hs : s.Inv) (ht : t.Inv) (c : Bool) : (if c then s else t).Inv := by
  split
  · exact hs
  · exact ht

/-- The effect of every form is a chain of named updates, each of which keeps the invariant. -/
theorem State.Inv.effect (h : s.Inv) (f : Form) : (s.effect f).Inv := by
  cases f with
  | nop | jp | jpIf | jpHl | jr | jrIf | illegal | escape => exact h
  | stop | halt | di | ei => exact h.of_eq rfl rfl
  | ld | ldImm | res | set => exact h.setLoc _ _
  | ldLoad => exact (h.setReg _ _).stepAccAddress _
  | ldStore => exact (h.write _ _).stepAccAddress _
  | ldAbsLoad | ldhLoad => exact h.setReg _ _
  | ldAbsStore | ldhStore => exact h.write _ _
  | ldAbsSp => exact (h.write _ _).write _ _
  | ldPair | ldSpHl | incPair | decPair => exact h.setPair _ _
  | ldHlSp | addHl => exact (h.setHl _).setFlags _
  | addSp => exact (h.setPair _ _).setFlags _
  | push | call | rst => exact h.push16 _
  | pop => exact h.drop16.setStackPair _ _
  | alu | aluImm => exact h.accumulate _ _
  | inc | dec | rot => exact (h.setLoc _ _).setFlags _
  | daa | cpl | rlca | rrca | rla | rra => exact (h.setReg _ _).setFlags _
  | scf | ccf | bit => exact h.setFlags _
  | callIf => exact (h.push16 _).ite h _
  | ret => exact h.drop16
  | retIf => exact h.drop16.ite h _
  | reti => exact h.drop16.of_eq rfl rfl

/-- Every instruction that completes keeps the invariant, the escape row too. -/
theorem exec_keeps_inv {i : Instr} (hs : s.Inv) (h : exec i s = .next t) : t.Inv := by
  obtain ⟨j, pc, rfl, _⟩ := exec_next h
  exact (hs.effect j.form).jump pc

/-- Settles O13: an idle step changes nothing, and an instruction's effect is a chain of named updates that keep the
invariant. -/
theorem stepKeepsTheInvariant : Obligations.StepKeepsTheInvariant := by
  intro s t hs h
  obtain ⟨_, rfl⟩ | ⟨_, i, _, hx⟩ := step_next_cases h
  · exact hs
  · exact exec_keeps_inv hs hx

end Sys2Proof.Machine
end

section
/-! PROOF. Which instructions write F (R26, R27). -/

namespace Sys2Proof.Machine

/-- A form whose flag line writes no flag leaves F, and any other leaves bits 3..0 of F at 0 (R26, R27). -/
theorem effect_f (i : Instr) (s : State) :
    (writesF i = false → (s.effect i.form).f = s.f) ∧ (writesF i = true → (s.effect i.form).f &&& 0x0F = 0) := by
  unfold writesF
  generalize i.form = f
  cases f with
  | ldHlSp | addHl | addSp | inc | dec | daa | cpl | scf | ccf | rlca | rrca | rla | rra | rot | bit =>
    exact ⟨nofun, fun _ => maskF_low _⟩
  | alu | aluImm =>
    exact ⟨nofun, fun _ => by rw [State.effect, State.accumulate_f]; exact Flags.toByte_low _⟩
  | pop rp2 =>
    cases rp2 with
    | af => exact ⟨nofun, fun _ => maskF_low _⟩
    | _ => exact ⟨fun _ => rfl, nofun⟩
  | callIf cc | retIf cc =>
    refine ⟨fun _ => ?_, nofun⟩
    simp only [State.effect]
    split <;> rfl
  | _ => exact ⟨fun _ => by simp [State.effect], nofun⟩

/-- Settles O16, from what each form's effect does to F; PC is no part of F. -/
theorem onlyFlagInstructionsChangeF : Obligations.OnlyFlagInstructionsChangeF := by
  intro i s t h hp
  obtain ⟨j, pc, rfl, rfl | ⟨hi, _⟩⟩ := exec_next h
  · exact effect_f j s
  · exact absurd hi hp

end Sys2Proof.Machine
end

section
/-! PROOF. Which instructions write IME and the mode (R29, R30, R340). -/

namespace Sys2Proof.Machine

open Sys2Proof.Laws

/-- IME is written by the forms of DI, EI and RETI alone (R29). -/
theorem effect_ime (s : State) {f : Form} (hdi : f ≠ .di) (hei : f ≠ .ei) (hreti : f ≠ .reti) :
    (s.effect f).ime = s.ime := by
  cases f with
  | di => exact absurd rfl hdi
  | ei => exact absurd rfl hei
  | reti => exact absurd rfl hreti
  | callIf | retIf =>
    simp only [State.effect]
    split <;> rfl
  | _ => simp [State.effect]

/-- The mode is written by the forms of HALT and STOP alone (R30). -/
theorem effect_mode (s : State) {f : Form} (hhalt : f ≠ .halt) (hstop : ∀ x, f ≠ .stop x) :
    (s.effect f).mode = s.mode := by
  cases f with
  | halt => exact absurd rfl hhalt
  | stop x => exact absurd rfl (hstop x)
  | callIf | retIf =>
    simp only [State.effect]
    split <;> rfl
  | _ => simp [State.effect]

/-- Where the instruction that runs is not the row `k`, and `k` is no extended row, the row behind what was done
(`exec_next`) has not the form of `k` (R92, R306). -/
theorem form_ne_of_ne {i j k : Instr} (hj : j = i ∨ i = .prefixCb ∧ (encode j).head? = some Config.escapeByte)
    (hk : (encode k).head? ≠ some Config.escapeByte) (hik : i ≠ k) : j.form ≠ k.form := by
  intro hf
  obtain rfl := form_injective hf
  obtain rfl | ⟨_, he⟩ := hj
  · exact hik rfl
  · exact hk he

/-- Settles O17: the five named rows are the only rows of their forms, and an extended row is none of them. -/
theorem onlyNamedInstructionsChangeControlState : Obligations.OnlyNamedInstructionsChangeControlState := by
  refine ⟨fun i s t h => ?_, fun s t h hm => ?_⟩
  · obtain ⟨j, pc, rfl, hj⟩ := exec_next h
    refine ⟨fun hdi hei hreti => effect_ime s ?_ ?_ ?_, fun hhalt hstop => effect_mode s ?_ fun x => ?_⟩
    · exact form_ne_of_ne hj (by decide) hdi
    · exact form_ne_of_ne hj (by decide) hei
    · exact form_ne_of_ne hj (by decide) hreti
    · exact form_ne_of_ne hj (by decide) hhalt
    · exact form_ne_of_ne hj (by change some (0x10 : Byte) ≠ some 0xCB; decide) (hstop x)
  · rw [step_suspended s hm] at h
    exact (Host.Outcome.next.inj h).symm

end Sys2Proof.Machine
end

section
/-! PROOF. A step of a machine with its recorded failure and its cycle count (R31, R68, R129, R323, R339). -/

namespace Sys2Proof.Machine

open Sys2Proof.Laws

variable {s t : State}

/-! ## The cost of a completed step -/

/-- An illegal first byte is the whole of its row (R99, R131). -/
theorem form_of_illegal_byte {i : Instr} {op : Byte} {rest : List Byte} (he : encode i = op :: rest)
    (hop : op ∈ illegalOpcodes) : i.form = .illegal op := by
  have hd := decode_encode i
  rw [he] at hd
  simp only [illegalOpcodes, List.mem_cons, List.not_mem_nil, or_false] at hop
  rcases hop with rfl | rfl | rfl | rfl | rfl | rfl | rfl | rfl | rfl | rfl | rfl <;> cases hd <;> rfl

/-- The cycle table has an entry for every opcode but the illegal ones (R96, R99). -/
theorem baseCycles_isSome : ∀ op : Byte, op ∉ illegalOpcodes → (baseCycles op).isSome = true := by decide

/-- A row that completes as itself has a cost (R129). -/
theorem cycleCost_of_exec_next {i : Instr} (hp : i ≠ .prefixCb) (h : exec i s = .next t) :
    ∃ c, cycleCost i s = some c := by
  unfold cycleCost
  cases he : encode i with
  | nil =>
    have hd := decode_encode i
    rw [he] at hd
    cases hd
  | cons op rest =>
    by_cases hop : op = Config.escapeByte
    · cases rest with
      | nil => exact absurd (encode_injective (he.trans (by rw [hop]; rfl))) hp
      | cons c more => exact ⟨extCycles c, by simp [hop]⟩
    · have hlegal : op ∉ illegalOpcodes := fun hmem => by
        rw [exec_of_form (form_of_illegal_byte he hmem)] at h
        cases h
      obtain ⟨cell, hcell⟩ := Option.isSome_iff_exists.mp (baseCycles_isSome op hlegal)
      exact ⟨_, (if_neg hop).trans (by rw [hcell, Option.map_some])⟩

/-- The decoder answers the escape row for the lone escape byte only (R92, R124). -/
theorem decode_prefixCb {bytes rest : List Byte} (h : decode bytes = .ok (.prefixCb, rest)) :
    bytes = [Config.escapeByte] := by
  obtain ⟨op, rfl, hc⟩ | ⟨op, f, x, rfl, hc, hi⟩ | ⟨op, f, lo, hi', rfl, hc, hi⟩ | ⟨c, rfl, hc⟩ | ⟨hb, _, _⟩ :=
    decode_shape h
  · have he := baseCell_encodes op
    rw [hc] at he
    cases he
    cases hc
  · have he := baseCell_encodes op
    rw [hc] at he
    cases hi ▸ he x
  · have he := baseCell_encodes op
    rw [hc] at he
    cases hi ▸ he (joinBytes hi' lo)
  · obtain ⟨j, hj, he⟩ := extCell_encodes c
    cases hc.symm.trans hj
    cases he
  · exact hb

/-- A fetch gives the escape row at 0xFFFF only, where its sub-opcode cannot be read (R124). -/
theorem fetch_prefixCb (h : fetch s = .ok .prefixCb) : s.pc.toNat = 0xFFFF := by
  unfold fetch at h
  cases hd : decode s.window with
  | error e => rw [hd] at h; cases h
  | ok r =>
    obtain ⟨i, rest⟩ := r
    rw [hd] at h
    cases h
    have hw := decode_prefixCb hd
    have hlt := s.pc.isLt
    rw [State.window_cons, State.bytesFrom_succ] at hw
    split at hw
    · simp at hw
    · unfold Config.topAddress at *
      omega

/-- A step that succeeds has a cost (R129). -/
theorem stepCost_of_step_next (h : step s = .next t) : ∃ c, stepCost s = some c := by
  obtain ⟨hm, _⟩ | ⟨hm, i, hf, hx⟩ := step_next_cases h
  · refine ⟨Config.suspendedCycles, ?_⟩
    cases hmode : s.mode with
    | running => exact absurd hmode hm
    | halted => simp only [stepCost, hmode]
    | stopped => simp only [stepCost, hmode]
  · have hp : i ≠ .prefixCb := by
      rintro rfl
      rw [exec_prefixCb_at_top s (fetch_prefixCb hf)] at hx
      cases hx
    obtain ⟨c, hc⟩ := cycleCost_of_exec_next hp hx
    exact ⟨c, by simp only [stepCost, hm, hf, hx, hc]⟩

/-! ## Accesses outside the address space -/

theorem inAddressSpace_of_outside {a : Int} (h : a < 0 ∨ 0xFFFF < a) : inAddressSpace a = false := by
  unfold inAddressSpace Config.topAddress
  rw [Bool.and_eq_false_iff, decide_eq_false_iff_not, decide_eq_false_iff_not]
  omega

namespace MachineInstance

variable (m : MachineInstance)

theorem doStep_fault {f : Fault} (h : m.failure = none) (hs : step m.state = .fault f) :
    m.doStep = ({ m with failure := some f }, .failed f) := by
  simp only [doStep, h, hs]

theorem doRead_outside {a : Int} (h : a < 0 ∨ 0xFFFF < a) : m.doRead a = (m, .failed (.outOfRangeAddress a)) := by
  simp [doRead, State.busRead, inAddressSpace_of_outside h]

theorem doWrite_outside {a : Int} (v : Byte) (h : a < 0 ∨ 0xFFFF < a) :
    m.doWrite a v = (m, .failed (.outOfRangeAddress a)) := by
  simp [doWrite, State.busWrite, inAddressSpace_of_outside h]

/-- A recorded failure stays through every history (R339). -/
theorem after_failed {f : Fault} (h : m.failure = some f) (actions : List HostAction) :
    (m.after actions).failure = some f := by
  induction actions generalizing m with
  | nil => exact h
  | cons action rest ih => exact ih _ (m.act_failed h action)

end MachineInstance

/-- Settles O23: a step that succeeds has a cost, and a recorded failure stays through every history. -/
theorem failedInstanceTakesNoFurtherStep : Obligations.FailedInstanceTakesNoFurtherStep := by
  refine ⟨fun m t hf hs => ?_, fun m f hf hs => m.doStep_fault hf hs, fun m f hf => m.doStep_failed hf,
    fun m f actions hf => m.after_failed hf actions, fun m a v ha => ⟨m.doRead_outside ha, m.doWrite_outside v ha⟩⟩
  obtain ⟨c, hc⟩ := stepCost_of_step_next hs
  have hdo := m.doStep_next hf hs
  rw [hc, Option.getD_some] at hdo
  exact ⟨c, hc, hdo⟩

end Sys2Proof.Machine
end

section
/-! PROOF. The pair views as numbers (R22, R23, R26). -/

namespace Sys2Proof.Machine

/-- A pair's value is 256 times its high byte plus its low byte (R7, R22). -/
theorem joinBytes_toNat (a b : Byte) : (joinBytes a b).toNat = 256 * a.toNat + b.toNat := by
  unfold joinBytes
  rw [BitVec.toNat_append, ← Nat.shiftLeft_add_eq_or_of_lt b.isLt, Nat.shiftLeft_eq]
  omega

theorem hiByte_toNat (v : Word) : (hiByte v).toNat = v.toNat / 256 := by
  have hv := v.isLt
  rw [hiByte, BitVec.extractLsb'_toNat, Nat.shiftRight_eq_div_pow]
  omega

theorem loByte_toNat (v : Word) : (loByte v).toNat = v.toNat % 256 := by
  rw [loByte, BitVec.extractLsb'_toNat, Nat.shiftRight_zero]

/-- F keeps the upper four bits of what is written to it (R26). -/
theorem maskF_toNat : ∀ v : Byte, (maskF v).toNat = v.toNat / 16 * 16 := by decide

theorem setStackPair_af_keepsRegs (s : State) (v : Word) : KeepsRegs s (s.setStackPair .af v) [.a] := by
  intro r hr
  cases r with
  | a => exact absurd (List.mem_singleton_self _) hr
  | _ => rfl

/-- Settles O20, from the numbers behind joined, split and masked bytes. -/
theorem pairViewsAreTheirTwoRegisters : Obligations.PairViewsAreTheirTwoRegisters := by
  intro s
  refine ⟨joinBytes_toNat _ _, joinBytes_toNat _ _, joinBytes_toNat _ _, joinBytes_toNat _ _, fun rp v => ?_,
    fun v => ⟨hiByte_toNat v, ?_, setStackPair_af_keepsRegs s v⟩⟩
  · obtain ⟨hregs, _⟩ := State.setPair_frame s rp v
    exact ⟨State.setPair_pair s rp v, hregs, State.setPair_f s rp v, State.setPair_sp_of_ne s rp v⟩
  · rw [← loByte_toNat]
    exact maskF_toNat (loByte v)

end Sys2Proof.Machine
end

section
/-! PROOF. The bus and the canonical memory (R50 to R52, R68). -/

namespace Sys2Proof.Machine

namespace State

variable (s : State)

theorem busRead_outside {a : Int} (h : a < 0 ∨ 0xFFFF < a) : s.busRead a = .error (.outOfRangeAddress a) := by
  simp [busRead, inAddressSpace_of_outside h]

theorem busWrite_outside {a : Int} (v : Byte) (h : a < 0 ∨ 0xFFFF < a) :
    s.busWrite a v = .error (.outOfRangeAddress a) := by
  simp [busWrite, inAddressSpace_of_outside h]

/-- A bus write at a 16-bit address always succeeds (R52). -/
theorem busWrite_word (a : Word) (v : Byte) : s.busWrite (a.toNat : Nat) v = .ok (s.write a v) := by
  have hin : inAddressSpace ((a.toNat : Nat) : Int) = true := by
    simpa [inAddressSpace] using Word.toNat_le_top a
  simp [busWrite, hin]

end State

/-- The integers the bus accepts are the values of the 16-bit addresses (R51). -/
theorem outside_or_word (a : Int) : (a < 0 ∨ 0xFFFF < a) ∨ ∃ w : Word, a = (w.toNat : Nat) := by
  by_cases h : a < 0 ∨ 0xFFFF < a
  · exact .inl h
  · refine .inr ⟨BitVec.ofNat 16 a.toNat, ?_⟩
    rw [BitVec.toNat_ofNat]
    omega

/-- An integer between the ends of the address space is the value of a 16-bit address (R51). -/
theorem exists_word_of_inside {a : Int} (h0 : 0 ≤ a) (h1 : a ≤ 0xFFFF) : ∃ w : Word, a = (w.toNat : Nat) :=
  (outside_or_word a).resolve_left (by omega)

/-- A write at a 16-bit address is not seen by a bus read at another integer, inside the space or outside it (R51, R52). -/
theorem State.busRead_write_ne (s : State) {w : Word} (v : Byte) {b : Int} (h : b ≠ (w.toNat : Nat)) :
    (s.write w v).busRead b = s.busRead b := by
  obtain hout | ⟨q, rfl⟩ := outside_or_word b
  · rw [State.busRead_outside _ hout, State.busRead_outside _ hout]
  · have hq : q ≠ w := fun hqw => h (by rw [hqw])
    rw [State.busRead_word, State.busRead_word, State.read_write_ne s v hq]

/-- Settles O18: outside the space both accesses fail, and inside it they are the accesses at a 16-bit address. -/
theorem busReadsBackWhatWasWritten : Obligations.BusReadsBackWhatWasWritten := by
  refine ⟨fun s a h => ⟨s.busRead_outside h, fun v => s.busWrite_outside v h⟩, fun s a h0 h1 => ?_,
    fun s a v hm h0 h1 => ?_⟩
  · obtain ⟨w, rfl⟩ := exists_word_of_inside h0 h1
    exact ⟨_, s.busRead_word w⟩
  · obtain ⟨w, rfl⟩ := exists_word_of_inside h0 h1
    refine ⟨s.write w v, s.busWrite_word w v, ?_, fun b hb => s.busRead_write_ne v hb, rfl⟩
    rw [State.busRead_word, State.read_write_self w v hm]

/-- Settles O19: a canonical memory lists no address above 0xFFFF, so reading alike at the 16-bit addresses is reading alike
everywhere. -/
theorem memoryThatReadsAlikeIsTheSameData : Obligations.MemoryThatReadsAlikeIsTheSameData := by
  refine ⟨fun s a v hm => State.write_wf a v hm, fun s t hs ht h => Memory.eq_of_read_eq hs ht fun a => ?_⟩
  by_cases ha : 0xFFFF < a
  · rw [Memory.read_above ha hs, Memory.read_above ha ht]
  · have hw := h (BitVec.ofNat 16 a)
    unfold State.read at hw
    rwa [BitVec.toNat_ofNat, Nat.mod_eq_of_lt (by omega)] at hw

end Sys2Proof.Machine
end

section
/-! PROOF. LD (a16),SP (R55, R174). -/

namespace Sys2Proof.Machine

variable (s : State)

/-- The two bytes would need the address 0x10000 (R55). -/
theorem storeSp_top : storeSp 0xFFFF s = .fault (.outOfRangeAddress 0x10000) := rfl

/-- Below the top both bytes are stored, the low one first (R55, R174). -/
theorem storeSp_of_ne_top {a16 : Word} (h : a16 ≠ 0xFFFF) :
    storeSp a16 s = .next (((s.write a16 (loByte s.sp)).write (a16 + 1) (hiByte s.sp)).advance 3) := by
  have hin : ¬ a16.toNat + 1 > Config.topAddress := by
    unfold Config.topAddress
    bv_omega
  simp [storeSp, State.busWrite16, hin]

/-- Two writes leave every other byte, the registers and the control state alone (R52). -/
theorem State.write_write_frame (a b : Word) (v w : Byte) : Frame s ((s.write a v).write b w) [] [a, b] := by
  refine ⟨fun q _ => by rw [State.write_reg, State.write_reg], fun q hq => ?_, rfl, rfl⟩
  simp only [List.mem_cons, List.not_mem_nil, or_false, not_or] at hq
  rw [State.read_write_ne _ _ hq.2, State.read_write_ne _ _ hq.1]

/-- Settles O35: the only failure is the address check at 0xFFFF, and otherwise both bytes are stored, at addresses that
differ. -/
theorem storeSpWritesTwoBytesOrFails : Obligations.StoreSpWritesTwoBytesOrFails := by
  intro a16
  have hform : (Instr.ldAtA16Sp a16).form = .ldAbsSp a16 := rfl
  refine ⟨row_of_form hform, fun s => ⟨?_, fun hne => ?_⟩⟩
  · rintro rfl
    exact (exec_of_form hform s).trans (storeSp_top s)
  · refine ⟨_, (exec_of_form hform s).trans (storeSp_of_ne_top s hne), (cost_of_form hform s).trans rfl,
      fun hm => ⟨?_, ?_⟩, (s.write_write_frame _ _ _ _).advance 3, rfl, rfl, rfl⟩
    · have hnext : a16 ≠ a16 + 1 := by bv_omega
      rw [State.advance_read, State.read_write_ne _ _ hnext, State.read_write_self _ _ hm]
    · rw [State.advance_read, State.read_write_self _ _ (State.write_wf _ _ hm)]

end Sys2Proof.Machine
end

section
/-! PROOF. An instruction placed where the step fetches (R62, R367; log entry 6). -/

namespace Sys2Proof.Machine

open Sys2Proof.Laws

/-- A whole row decodes from its own bytes whatever follows them, and the bytes that follow are left (R80 to R94). -/
theorem decode_encode_append {i : Instr} (h : i.isWhole = true) (rest : List Byte) :
    decode (encode i ++ rest) = .ok (i, rest) := by
  obtain rfl | ⟨op, he, hc⟩ | ⟨op, f, x, he, hc, rfl⟩ | ⟨c, he, hc⟩ | ⟨op, f, v, he, hc, rfl⟩ := encode_cell i
  · cases h
  · simp [he, decode, hc]
  · simp [he, decode, hc, decodeImm8]
  · simp [he, decode_escape, decodeExtended, hc]
  · simp [he, operand16, decode, hc, decodeImm16]

namespace State

variable (s : State)

/-- Where three bytes are placed: at PC, or at 0x0000 when they would run past 0xFFFF. -/
def placeBase : Word := if s.pc.toNat ≤ 0xFFFD then s.pc else 0

theorem placeBase_le : s.placeBase.toNat ≤ 0xFFFD := by
  unfold placeBase
  split
  · assumption
  · decide

/-- The state given, with three bytes stored one after the other from `base` on, PC at `base` and Running. -/
theorem placeInstruction_three (x y z : Byte) :
    s.placeInstruction [x, y, z] =
      ((({ s with pc := s.placeBase, mode := .running } : State).write s.placeBase x).write (s.placeBase + 1) y).write
        (s.placeBase + 2) z := by
  have hbase : (if s.pc.toNat + 3 ≤ Config.memorySize then s.pc else 0) = s.placeBase := by
    unfold placeBase Config.memorySize
    congr 1
    exact propext (by omega)
  have htwo : s.placeBase + 1 + 1 = s.placeBase + 2 := by bv_omega
  simp only [placeInstruction, List.length_cons, List.length_nil, Nat.zero_add, Nat.reduceAdd, hbase, writeBytes, htwo]

/-- Three bytes written one after the other read back, and no other byte changes (R52). -/
theorem write_three_reads {x y z : Byte} {t : State} (a : Word) (hm : s.mem.wf = true)
    (ht : t = ((s.write a x).write (a + 1) y).write (a + 2) z) :
    [t.read a, t.read (a + 1), t.read (a + 2)] = [x, y, z] ∧ KeepsMem s t [a, a + 1, a + 2] := by
  have h01 : a ≠ a + 1 := by bv_omega
  have h02 : a ≠ a + 2 := by bv_omega
  have h12 : a + 1 ≠ a + 2 := by bv_omega
  have hm1 := State.write_wf a x hm
  have hm2 := State.write_wf (a + 1) y hm1
  subst ht
  refine ⟨?_, fun q hq => ?_⟩
  · rw [State.read_write_ne _ _ h02, State.read_write_ne _ _ h01, State.read_write_self _ _ hm,
      State.read_write_ne _ _ h12, State.read_write_self _ _ hm1, State.read_write_self _ _ hm2]
  · simp only [List.mem_cons, List.not_mem_nil, or_false, not_or] at hq
    obtain ⟨hq0, hq1, hq2⟩ := hq
    rw [State.read_write_ne _ _ hq2, State.read_write_ne _ _ hq1, State.read_write_ne _ _ hq0]

end State

/-- A Running state at whose PC the three bytes of a whole row and padding stand runs that row (R121, R123, R126). -/
theorem step_of_bytes_at_pc {p : State} {i : Instr} {pad : List Byte} (hm : p.mode = .running)
    (hi : i.isWhole = true) (hpc : p.pc.toNat ≤ 0xFFFD)
    (hb : [p.read p.pc, p.read (p.pc + 1), p.read (p.pc + 2)] = encode i ++ pad) : step p = exec i p :=
  step_of_decode p hm (by rw [p.window_full hpc, hb, decode_encode_append hi])

theorem exists_three_of_length {l : List Byte} (h : l.length = 3) : ∃ x y z, l = [x, y, z] :=
  match l, h with
  | [x, y, z], _ => ⟨x, y, z, rfl⟩

/-- Settles O12: placing is three writes from where the step fetches, and the step decodes the three bytes there. -/
theorem placedInstructionIsTheOneThatRuns : Obligations.PlacedInstructionIsTheOneThatRuns := by
  intro s i pad hwf hi hlen
  obtain ⟨x, y, z, hxyz⟩ := exists_three_of_length (List.length_append.trans hlen)
  intro p
  have hp := s.placeInstruction_three x y z
  rw [← hxyz] at hp
  obtain ⟨hreads, hkeeps⟩ :=
    State.write_three_reads { s with pc := s.placeBase, mode := .running } s.placeBase hwf hp
  have hmode : p.mode = .running := congrArg State.mode hp
  have hpc : p.pc = s.placeBase := congrArg State.pc hp
  have hbytes : [p.read p.pc, p.read (p.pc + 1), p.read (p.pc + 2)] = encode i ++ pad := by
    rw [hpc, hxyz]
    exact hreads
  refine ⟨step_of_bytes_at_pc hmode hi (hpc ▸ s.placeBase_le) hbytes, hmode, hpc, hbytes, ?_, fun r => ?_,
    (congrArg State.f hp).trans rfl, (congrArg State.sp hp).trans rfl, (congrArg State.ime hp).trans rfl⟩
  · rw [hpc]
    exact hkeeps
  · refine (congrArg (State.reg · r) hp).trans ?_
    cases r <;> rfl

end Sys2Proof.Machine
end

section
/-! PROOF. The end of a run (R339, R340, R368): an end is a HALT from Running, and what stands at the end of the history is
the HALT's state with the host's writes since. -/

namespace Sys2Proof.Machine

/-! ## The host's writes since -/

namespace State

variable (s : State) (rest : List HostAction)

/-- Host writes change at most memory (R52). -/
theorem hostWrites_keeps_all_but_mem : { s.hostWrites rest with mem := s.mem } = s := by
  induction rest generalizing s with
  | nil => rfl
  | cons action rest ih =>
    have h := congrArg (fun t : State => { t with mem := s.mem }) (ih (s.hostWrite action))
    rw [s.hostWrite_eq action] at h
    rw [hostWrites_cons, s.hostWrite_eq action]
    exact h

@[simp] theorem hostWrites_mode : (s.hostWrites rest).mode = s.mode :=
  (congrArg State.mode (s.hostWrites_keeps_all_but_mem rest)).trans rfl

variable {rest}

/-- Among actions without a write nothing changes. -/
theorem hostWrites_of_no_write (h : ∀ a v, HostAction.write a v ∉ rest) : s.hostWrites rest = s := by
  induction rest generalizing s with
  | nil => rfl
  | cons action rest ih =>
    have hrest : ∀ a v, HostAction.write a v ∉ rest := fun a v hmem => h a v (List.mem_cons_of_mem _ hmem)
    cases action with
    | write a v => exact absurd List.mem_cons_self (h a v)
    | _ => exact ih s hrest

/-- A byte that no host write names is as it was (R52, R68). -/
theorem hostWrites_read {q : Word} (h : ∀ v, HostAction.write q.toNat v ∉ rest) :
    (s.hostWrites rest).read q = s.read q := by
  induction rest generalizing s with
  | nil => rfl
  | cons action rest ih =>
    have hhead : ∀ v, action ≠ .write q.toNat v := fun v hv => h v (hv ▸ List.mem_cons_self)
    have htail : ∀ v, HostAction.write q.toNat v ∉ rest := fun v hmem => h v (List.mem_cons_of_mem _ hmem)
    rw [hostWrites_cons, ih (s.hostWrite action) htail, s.hostWrite_read hhead]

end State

/-! ## The step of a HALT -/

theorem exec_halt (s : State) : exec .halt s = .next { s with mode := .halted, pc := s.pc + 1 } := rfl

/-- HALT is the only instruction that takes a core from Running to Halted (R30, R301). -/
theorem fetch_halt_of_stepHalts {s t : State} (h : StepHalts s t) : fetch s = .ok .halt := by
  obtain ⟨hrun, hstep, hhalted⟩ := h
  obtain ⟨hm, _⟩ | ⟨_, i, hf, hx⟩ := step_next_cases hstep
  · exact absurd hrun hm
  · by_cases hhalt : i = .halt
    · rwa [hhalt] at hf
    · exfalso
      by_cases hstop : ∃ x, i = .stop x
      · obtain ⟨x, rfl⟩ := hstop
        cases hx
        cases hhalted
      · obtain ⟨hnamed, _⟩ := onlyNamedInstructionsChangeControlState
        have hmode := (hnamed i s t hx).2 hhalt fun x hx => hstop ⟨x, hx⟩
        rw [hhalted, hrun] at hmode
        cases hmode

/-- A Running step that fetches HALT leaves the core Halted with PC one further, and nothing else changed (R301). -/
theorem step_of_fetch_halt {s : State} (hrun : s.mode = .running) (hf : fetch s = .ok .halt) :
    step s = .next { s with mode := .halted, pc := s.pc + 1 } := by
  rw [step_running s hrun, hf]
  exact exec_halt s

namespace MachineInstance

variable (m : MachineInstance)

/-! ## A halted core left alone -/

theorem after_concat (xs : List HostAction) (action : HostAction) :
    m.after (xs ++ [action]) = ((m.after xs).act action).1 := m.after_append xs [action]

theorem leftAlone_singleton (action : HostAction) : m.leftAlone [action] = !m.performsSeam action := by
  rw [leftAlone_cons, leftAlone_nil, Bool.and_true]

/-- While a suspended core is left alone its state takes the host's writes and nothing else, and no failure is recorded
(R122, R339, R340). -/
theorem after_leftAlone {rest : List HostAction} (hs : m.state.mode ≠ .running) (h : m.leftAlone rest = true) :
    (m.after rest).failure = m.failure ∧ (m.after rest).state = m.state.hostWrites rest := by
  induction rest generalizing m with
  | nil => exact ⟨rfl, rfl⟩
  | cons action rest ih =>
    rw [leftAlone_cons, Bool.and_eq_true, Bool.not_eq_true'] at h
    obtain ⟨hseam, halone⟩ := h
    obtain ⟨cycles, hact⟩ := m.act_suspended hs hseam
    rw [hact] at halone
    rw [after_cons, hact, State.hostWrites_cons]
    exact ih _ (by rwa [State.hostWrite_mode]) halone

/-- The only action that takes a core to Halted is a step that succeeds (R30, R340). -/
theorem act_halts {action : HostAction} (hm : m.state.mode ≠ .halted)
    (h : (m.act action).1.state.mode = .halted) :
    action = .step ∧ ∃ cost, m.act .step = ((m.act .step).1, .cost cost) := by
  have hseam : m.performsSeam action = false := by
    rw [Bool.eq_false_iff]
    intro hp
    rw [m.act_seam_running hp] at h
    cases h
  by_cases hstep : action = .step
  · subst hstep
    refine ⟨rfl, ?_⟩
    cases hf : m.failure with
    | some f =>
      rw [act_step, m.doStep_failed hf] at h
      exact absurd h hm
    | none =>
      cases hs : step m.state with
      | next t => exact ⟨_, by rw [act_step, m.doStep_next hf hs]⟩
      | fault f =>
        rw [act_step, m.doStep_fault hf hs] at h
        exact absurd h hm
      | refused r =>
        simp only [act_step, doStep, hf, hs] at h
        exact absurd h hm
  · rw [m.act_other hstep hseam, State.hostWrite_mode] at h
    exact absurd h hm

end MachineInstance

/-! ## Halts that are left alone, and the end among them -/

variable {m n : MachineInstance} {before rest history : List HostAction}

namespace HaltLeftAlone

theorem step_next (h : HaltLeftAlone m before rest n) :
    (m.after before).failure = none ∧ n.failure = none ∧ step (m.after before).state = .next n.state := by
  obtain ⟨⟨cost, hact⟩, _, _⟩ := h
  exact (m.after before).of_doStep_cost hact

theorem after_eq (h : HaltLeftAlone m before rest n) (later : List HostAction) :
    m.after (before ++ .step :: later) = n.after later := by
  obtain ⟨⟨cost, hact⟩, _, _⟩ := h
  rw [m.after_append, MachineInstance.after_cons, hact]

/-- What stands at the end of a history whose HALT is left alone (R339, R340). -/
theorem after_history (h : HaltLeftAlone m before rest n) :
    (m.after (before ++ .step :: rest)).failure = none ∧
      (m.after (before ++ .step :: rest)).state = n.state.hostWrites rest := by
  obtain ⟨_, hfailure, _⟩ := h.step_next
  rw [h.after_eq rest, ← hfailure]
  obtain ⟨_, hhalted, halone⟩ := h
  exact n.after_leftAlone (by rw [hhalted]; decide) halone

/-- A halt that is left alone stays left alone through later actions that are no performed seam actions. -/
theorem append (h : HaltLeftAlone m before rest n) {later : List HostAction}
    (hl : (m.after (before ++ .step :: rest)).leftAlone later = true) :
    HaltLeftAlone m before (rest ++ later) n := by
  rw [h.after_eq rest] at hl
  obtain ⟨hact, hhalted, halone⟩ := h
  exact ⟨hact, hhalted, by rw [n.leftAlone_append, halone, hl]; rfl⟩

end HaltLeftAlone

/-- A core that does not begin Halted and is Halted after some actions was halted by a step left alone since: the last
action after which it was not yet Halted is followed by such a step (R30, R340). -/
theorem exists_haltLeftAlone (hm : m.state.mode ≠ .halted) :
    ∀ actions : List HostAction, (m.after actions).state.mode = .halted →
      ∃ before rest n, actions = before ++ .step :: rest ∧ HaltLeftAlone m before rest n := by
  intro actions
  rw [← actions.reverse_reverse]
  induction actions.reverse with
  | nil => exact fun h => absurd h hm
  | cons action earlier ih =>
    intro h
    rw [List.reverse_cons] at h ⊢
    rw [m.after_concat] at h
    by_cases hearlier : (m.after earlier.reverse).state.mode = .halted
    · obtain ⟨before, rest, n, heq, hhalt⟩ := ih hearlier
      rw [heq] at h ⊢
      refine ⟨before, rest ++ [action], n, List.append_assoc .., hhalt.append ?_⟩
      rw [MachineInstance.leftAlone_singleton, Bool.not_eq_true', Bool.eq_false_iff]
      intro hseam
      rw [MachineInstance.act_seam_running _ hseam] at h
      cases h
    · obtain ⟨rfl, hcost⟩ := MachineInstance.act_halts _ hearlier h
      exact ⟨earlier.reverse, [], _, rfl, hcost, h, rfl⟩

/-- Among the halts of a history that are left alone there is a first one, which ends the run (R368). -/
theorem HaltLeftAlone.exists_endsRun (h : HaltLeftAlone m before rest n) :
    ∃ n', EndsRun m (before ++ .step :: rest) n' := by
  induction hlen : before.length using Nat.strongRecOn generalizing before rest n with
  | ind k ih =>
    by_cases hfirst : ∀ before' rest' n', before ++ .step :: rest = before' ++ .step :: rest' →
        HaltLeftAlone m before' rest' n' → before.length ≤ before'.length
    · exact ⟨n, before, rest, rfl, h, hfirst⟩
    · simp only [Classical.not_forall, Nat.not_le] at hfirst
      obtain ⟨before', rest', n', heq, hhalt', hlt⟩ := hfirst
      rw [heq]
      exact ih before'.length (hlen ▸ hlt) hhalt' rfl

/-- The core is Halted at the end of a history that has an end (R340). -/
theorem EndsRun.after_halted (h : EndsRun m history n) : (m.after history).state.mode = .halted := by
  obtain ⟨before, rest, rfl, hhalt, _⟩ := h
  obtain ⟨_, hstate⟩ := hhalt.after_history
  obtain ⟨_, hhalted, _⟩ := hhalt
  rw [hstate, State.hostWrites_mode, hhalted]

/-- An end of a run is a step from Running: a Halted core was halted by an earlier step, which is then left alone too. -/
theorem EndsRun.stepHalts (hm : m.state.mode ≠ .halted) (h : EndsRun m history n) :
    ∃ before rest, history = before ++ .step :: rest ∧ HaltLeftAlone m before rest n ∧
      StepHalts (m.after before).state n.state := by
  obtain ⟨before, rest, rfl, hhalt, hfirst⟩ := h
  obtain ⟨_, _, hstep⟩ := hhalt.step_next
  refine ⟨before, rest, rfl, hhalt, ?_, hstep, hhalt.2.1⟩
  obtain ⟨_, hidle⟩ | ⟨hrun, _⟩ := step_next_cases hstep
  · exfalso
    obtain ⟨⟨cost, hact⟩, hhalted, halone⟩ := hhalt
    obtain ⟨earlier, between, n', rfl, hearlier⟩ := exists_haltLeftAlone hm before (hidle ▸ hhalted)
    have hlater : (m.after (earlier ++ .step :: between)).leftAlone (.step :: rest) = true := by
      rw [MachineInstance.leftAlone_cons, hact, halone]
      rfl
    have hle := hfirst earlier _ n' (List.append_assoc ..) (hearlier.append hlater)
    rw [List.length_append, List.length_cons] at hle
    omega
  · exact hrun

/-- Settles O60: an end is the step of a HALT, after which a core left alone takes the host's writes only; the first halt
left alone is an end; and a core that is not Halted at the end of its history has none. -/
theorem runEndsAtAHaltAndStaysThere : Obligations.RunEndsAtAHaltAndStaysThere := by
  refine ⟨fun m n history hm h => ?_, fun m before rest hfailure hrun hf halone => ?_, fun m n f history hf h => ?_,
    fun m n history h => ?_, fun m n irq history hime h => ?_, fun m n history hm h => hm h.after_halted⟩
  · obtain ⟨before, rest, rfl, hhalt, hstep⟩ := h.stepHalts hm
    have hfetch := fetch_halt_of_stepHalts hstep
    obtain ⟨hfailure, _, hnext⟩ := hhalt.step_next
    obtain ⟨hlast, hstate⟩ := hhalt.after_history
    rw [step_of_fetch_halt hstep.1 hfetch] at hnext
    refine ⟨before, rest, rfl, hfailure, hstep, hfetch, (Host.Outcome.next.inj hnext).symm, hlast, hstate,
      fun hw => ?_, ?_, fun a ha => ?_⟩
    · rw [hstate, n.state.hostWrites_of_no_write hw]
    · rw [hstate, n.state.hostWrites_keeps_all_but_mem rest]
    · rw [hstate, n.state.hostWrites_read ha]
  · have hact := (m.after before).doStep_next hfailure (step_of_fetch_halt hrun hf)
    rw [m.after_concat, MachineInstance.act_step, hact] at halone
    exact HaltLeftAlone.exists_endsRun ⟨⟨_, hact⟩, rfl, halone⟩
  · obtain ⟨before, rest, _, hhalt, _⟩ := h
    obtain ⟨hnone, _⟩ := hhalt.step_next
    rw [m.after_failed hf before] at hnone
    cases hnone
  · have hmode := h.after_halted
    rw [m.after_concat] at hmode
    cases hmode
  · have hmode := h.after_halted
    rw [m.after_concat, MachineInstance.act_seam_running _ ((MachineInstance.performsSeam_enter _ irq).trans hime)] at hmode
    cases hmode

end Sys2Proof.Machine
end

section
/-! PROOF. The encoder and the decoder agree in both directions, the lengths of the tables, and the extended space
(30_encoding.md). -/

namespace Sys2Proof.Machine

open Sys2Proof.Laws

variable {i : Instr} {op : Byte} {bytes rest : List Byte}

/-! ## The round trip -/

/-- Settles O1: the opcode and the operand bytes of a whole row are read back, and what follows them is left. -/
theorem decodingAnEncodedInstructionGivesItBack : Obligations.DecodingAnEncodedInstructionGivesItBack :=
  fun _ rest h => decode_encode_append h rest

theorem cellEncodes_of_baseCell {cell : BaseCell} (h : baseCell op = some cell) : CellEncodes op (some cell) :=
  h ▸ baseCell_encodes op

theorem encode_of_extCell {c : Byte} (h : extCell c = some i) : encode i = [Config.escapeByte, c] := by
  obtain ⟨j, hj, he⟩ := extCell_encodes c
  cases h.symm.trans hj
  exact he

/-- The two operand bytes behind a word are the word's bytes, the low one first (R90). -/
theorem operand16_join (hi lo : Byte) : operand16 (joinBytes hi lo) = [lo, hi] := by
  rw [operand16, hiByte_join, loByte_join]

/-- What the decoder takes off the front is the encoding of what it answers (R93, R94, R101). -/
theorem encode_append_of_decode (h : decode bytes = .ok (i, rest)) : encode i ++ rest = bytes := by
  obtain ⟨op, rfl, hc⟩ | ⟨op, f, x, rfl, hc, rfl⟩ | ⟨op, f, lo, hi, rfl, hc, rfl⟩ | ⟨c, rfl, hc⟩ | ⟨rfl, rfl, rfl⟩ :=
    decode_shape h
  · have he : encode i = [op] := cellEncodes_of_baseCell hc
    rw [he, List.singleton_append]
  · have he : encode (f x) = [op, x] := cellEncodes_of_baseCell hc x
    rw [he, List.cons_append, List.singleton_append]
  · have he : encode (f (joinBytes hi lo)) = op :: operand16 (joinBytes hi lo) := cellEncodes_of_baseCell hc _
    rw [he, operand16_join, List.cons_append, List.cons_append, List.singleton_append]
  · rw [encode_of_extCell hc, List.cons_append, List.singleton_append]
  · rfl

/-- Settles O2: each format's cell encodes its instructions to the bytes the decoder read for them. -/
theorem decodedBytesAreTheEncoding : Obligations.DecodedBytesAreTheEncoding :=
  fun _ _ _ h => encode_append_of_decode h

/-! ## The length from the first byte -/

/-- The number of bytes of a cell's format; an extended instruction has two (R80, R97). -/
def cellLength : BaseCell → Nat
  | .whole _ => 1
  | .imm8 _ => 2
  | .imm16 _ => 3
  | .sub => extLength

/-- The tables give an opcode the length of its cell's format, and the illegal values none (R95, R97, R99). -/
theorem lengthOf_eq :
    ∀ op : Byte, lengthOf op = if op ∈ illegalOpcodes then none else (baseCell op).map cellLength := by decide

theorem encode_ne_nil (i : Instr) : encode i ≠ [] := by
  intro he
  have hd := decode_encode i
  rw [he] at hd
  cases hd

/-- The first byte the decoder reads is the first byte of the instruction it answers (R101). -/
theorem encode_cons_of_decode (h : decode (op :: bytes) = .ok (i, rest)) : ∃ tail, encode i = op :: tail := by
  obtain ⟨hnil, _⟩ | ⟨tail, he, _⟩ := List.append_eq_cons_iff.mp (encode_append_of_decode h)
  · exact absurd hnil (encode_ne_nil i)
  · exact ⟨tail, he⟩

/-- Every row but the lone escape byte is as long as the format of its first byte's cell (R80, R101). -/
theorem encode_length {tail : List Byte} (hp : i ≠ .prefixCb) (he : encode i = op :: tail) :
    (baseCell op).map cellLength = some (encode i).length := by
  obtain rfl | ⟨_, hb, hc⟩ | ⟨_, f, x, hb, hc, _⟩ | ⟨c, hb, _⟩ | ⟨_, f, v, hb, hc, _⟩ := encode_cell i
  · exact absurd rfl hp
  all_goals
    rw [hb] at he
    cases he
    rw [hb]
  · exact congrArg (Option.map cellLength) hc
  · exact congrArg (Option.map cellLength) hc
  · rfl
  · exact congrArg (Option.map cellLength) hc

/-- Settles O4: the tables agree with the formats of the cells, and an illegal first byte is its whole row. -/
theorem lengthComesFromTheFirstByte : Obligations.LengthComesFromTheFirstByte := by
  intro op x more i rest h
  obtain ⟨tail, he⟩ := encode_cons_of_decode h
  have hp : i ≠ .prefixCb := by
    rintro rfl
    cases decode_prefixCb h
  by_cases hop : op ∈ illegalOpcodes
  · have hlen : lengthOf op = none := (lengthOf_eq op).trans (if_pos hop)
    have hform := form_of_illegal_byte he hop
    refine ⟨fun n hn => ?_, iff_of_true hlen hop, fun _ => ⟨hform, (bytes_of_form hform).1⟩⟩
    cases hlen.symm.trans hn
  · have hlen : lengthOf op = some (encode i).length :=
      (lengthOf_eq op).trans ((if_neg hop).trans (encode_length hp he))
    refine ⟨fun n hn => Option.some.inj (hlen.symm.trans hn), iff_of_false ?_ hop, fun h => absurd h hop⟩
    rw [hlen]
    exact Option.some_ne_none _

/-! ## The extended space -/

/-- The form of a sub-opcode's row, with the fields x, y, z of the sub-opcode (R91, R94). -/
theorem form_of_extCell {c : Byte} (h : extCell c = some i) :
    (fieldX c = 0 ∧ ∃ op dst, i.form = .rot op dst ∧ op.code = fieldY c ∧ dst.code = fieldZ c) ∨
    (fieldX c = 1 ∧ ∃ src, i.form = .bit (fieldY c) src ∧ src.code = fieldZ c) ∨
    (fieldX c = 2 ∧ ∃ dst, i.form = .res (fieldY c) dst ∧ dst.code = fieldZ c) ∨
    (fieldX c = 3 ∧ ∃ dst, i.form = .set (fieldY c) dst ∧ dst.code = fieldZ c) := by
  have hok := extFieldsAgree_all c
  simp only [extFieldsAgree, h] at hok
  cases hf : i.form with
  | rot op dst =>
    simp only [hf, Bool.and_eq_true, beq_iff_eq] at hok
    obtain ⟨⟨hx, hy⟩, hz⟩ := hok
    exact .inl ⟨hx, op, dst, rfl, hy, hz⟩
  | bit b src =>
    simp only [hf, Bool.and_eq_true, beq_iff_eq] at hok
    obtain ⟨⟨hx, rfl⟩, hz⟩ := hok
    exact .inr (.inl ⟨hx, src, rfl, hz⟩)
  | res b dst =>
    simp only [hf, Bool.and_eq_true, beq_iff_eq] at hok
    obtain ⟨⟨hx, rfl⟩, hz⟩ := hok
    exact .inr (.inr (.inl ⟨hx, dst, rfl, hz⟩))
  | set b dst =>
    simp only [hf, Bool.and_eq_true, beq_iff_eq] at hok
    obtain ⟨⟨hx, rfl⟩, hz⟩ := hok
    exact .inr (.inr (.inr ⟨hx, dst, rfl, hz⟩))
  | _ =>
    rw [hf] at hok
    cases hok

/-- Every row of the extended map is well-formed: none is illegal or the escape row (R94, R100, R133). -/
theorem wellFormed_of_extCell {c : Byte} (h : extCell c = some i) : i.wellFormed = true := by
  unfold Instr.wellFormed Instr.hasTableEntry Instr.isWhole
  obtain ⟨_, _, _, hf, _⟩ | ⟨_, _, hf, _⟩ | ⟨_, _, hf, _⟩ | ⟨_, _, hf, _⟩ := form_of_extCell h <;> rw [hf] <;> rfl

/-- Settles O5: the sub-opcode's row of the extended map is the instruction, and its form has the fields of the
sub-opcode. -/
theorem everySubOpcodeIsAnInstruction : Obligations.EverySubOpcodeIsAnInstruction := by
  intro cbop rest
  obtain ⟨i, hc, he⟩ := extCell_encodes cbop
  refine ⟨i, ?_, wellFormed_of_extCell hc, he, form_of_extCell hc⟩
  change decode (Config.escapeByte :: cbop :: rest) = _
  rw [decode_escape, decodeExtended, hc]

/-! ## Words written out -/

/-- Settles O3: the decoder evaluates each word to its row. -/
theorem writtenOutWordsDecode : Obligations.WrittenOutWordsDecode :=
  ⟨rfl, rfl, rfl, rfl, rfl, rfl, rfl, rfl, rfl, rfl, rfl, rfl, rfl, rfl, rfl⟩

end Sys2Proof.Machine
end

section
/-! PROOF. The whole next state of a rule that completes (R127, R128, R133), and where it leaves PC. -/

namespace Sys2Proof.Machine

open Sys2Proof.Laws

variable (s : State)

/-! ## The rule of a form -/

/-- Where the rule of a form leaves PC: at the target of a transfer that is taken, and else past the form's bytes (R128). -/
def State.pcAfter : Form → Word
  | .jp a16 | .call a16 => a16
  | .jpIf cc a16 | .callIf cc a16 => if s.holdsCond cc then a16 else s.pc + 3
  | .jpHl => s.hl
  | .jr e8 => BitVec.ofInt 16 (s.pc.toNat + 2 + e8.toInt)
  | .jrIf cc e8 => if s.holdsCond cc then BitVec.ofInt 16 (s.pc.toNat + 2 + e8.toInt) else s.pc + 2
  | .ret | .reti => s.stackTop
  | .retIf cc => if s.holdsCond cc then s.stackTop else s.pc + 1
  | .rst y => BitVec.ofNat 16 (8 * y.toNat)
  | f => s.pc + BitVec.ofNat 16 f.bytes.length

section
/-! A conditional transfer that is not taken goes on at the next instruction (R282, R285, R287, R289). -/

variable (cc : Cond)

theorem State.pcAfter_jpIf (a16 : Word) :
    s.pcAfter (.jpIf cc a16) = if s.holdsCond cc then a16 else s.nextPc 3 := rfl

theorem State.pcAfter_jrIf (e8 : Byte) :
    s.pcAfter (.jrIf cc e8) = if s.holdsCond cc then BitVec.ofInt 16 (s.pc.toNat + 2 + e8.toInt) else s.nextPc 2 := rfl

theorem State.pcAfter_callIf (a16 : Word) :
    s.pcAfter (.callIf cc a16) = if s.holdsCond cc then a16 else s.nextPc 3 := rfl

theorem State.pcAfter_retIf : s.pcAfter (.retIf cc) = if s.holdsCond cc then s.stackTop else s.nextPc 1 := rfl

end

/-- PC is no part of a form's effect. -/
theorem effect_pc (f : Form) : (s.effect f).pc = s.pc := by
  cases f with
  | callIf | retIf =>
    simp only [State.effect]
    split <;> rfl
  | _ => simp [State.effect]

/-- A rule that retires its form's effect advances the PC the instruction began with (R127, R128). -/
theorem formRule_of_retire {f : Form} (h : formRule f s = retire f.bytes.length (s.effect f))
    (hpc : s.pcAfter f = s.nextPc f.bytes.length) : formRule f s = .next ((s.effect f).jump (s.pcAfter f)) := by
  rw [h, hpc, retire_eq, State.advance, State.nextPc, effect_pc, State.nextPc]

/-- The target of RST as a product of numbers (R291). -/
theorem rstTarget_eq : ∀ y : BitVec 3, rstTarget y = BitVec.ofNat 16 (8 * y.toNat) := by decide

/-- A rule that has no failure leaves its form's effect with PC at `State.pcAfter` (R127, R128, R133). -/
theorem formRule_eq {f : Form} (hill : ∀ op, f ≠ .illegal op) (hesc : f ≠ .escape) (hsp : f ≠ .ldAbsSp 0xFFFF) :
    formRule f s = .next ((s.effect f).jump (s.pcAfter f)) := by
  cases f with
  | illegal op => exact absurd rfl (hill op)
  | escape => exact absurd rfl hesc
  | ldAbsSp a16 => exact storeSp_of_ne_top s fun ha => hsp (congrArg _ ha)
  | jr e8 => exact congrArg (fun target => Host.Outcome.next (s.jump target)) (s.relTarget_eq e8)
  | rst y => exact congrArg (fun target => Host.Outcome.next ((s.push16 (s.nextPc 1)).jump target)) (rstTarget_eq y)
  | jp | jpHl | call | ret | reti => rfl
  | jpIf cc | callIf cc | retIf cc | jrIf cc =>
    simp only [formRule, jumpIf, jumpRelIf, callIf, retIf, State.effect, State.cond_eq, State.relTarget_eq,
      State.pcAfter_jpIf, State.pcAfter_jrIf, State.pcAfter_callIf, State.pcAfter_retIf]
    split <;> rfl
  | _ => exact formRule_of_retire s rfl rfl

/-! ## The instructions -/

/-- A well-formed term is neither an illegal row nor the escape row (R99, R306). -/
theorem wellFormed_iff {i : Instr} : i.wellFormed = true ↔ (∀ op, i.form ≠ .illegal op) ∧ i.form ≠ .escape := by
  unfold Instr.wellFormed Instr.hasTableEntry Instr.isWhole
  cases i.form <;> simp

/-- An instruction completes from every state, but LD (a16),SP with a16 = 0xFFFF (R133, R174). -/
theorem exec_eq {i : Instr} (hi : i.wellFormed = true) (hsp : i.form ≠ .ldAbsSp 0xFFFF) :
    exec i s = .next ((s.effect i.form).jump (s.pcAfter i.form)) := by
  obtain ⟨hill, hesc⟩ := wellFormed_iff.mp hi
  rw [exec_eq_formRule, formRule_eq s hill hesc hsp]

/-- Settles O9: the rule of every form but three completes, and those are the illegal rows, the escape row and
LD (0xFFFF),SP. -/
theorem everyInstructionCompletes : Obligations.EveryInstructionCompletes :=
  fun _ s hi hsp => ⟨_, exec_eq s hi hsp⟩

/-! ## The escape row -/

/-- An extended instruction completes with PC two further (R97, R100). -/
theorem exec_extCell {c : Byte} {i : Instr} (h : extCell c = some i) :
    exec i s = .next ((s.effect i.form).jump (s.pc + 2)) := by
  have hwf := wellFormed_of_extCell h
  obtain ⟨_, _, _, hf, _⟩ | ⟨_, _, hf, _⟩ | ⟨_, _, hf, _⟩ | ⟨_, _, hf, _⟩ := form_of_extCell h
  all_goals
    rw [exec_eq s hwf (by rw [hf]; nofun), hf]
    rfl

/-- The escape row with its sub-opcode inside the address space runs that sub-opcode's row (R124, R306). -/
theorem exec_prefixCb_extCell (h : s.pc.toNat ≠ 0xFFFF) :
    ∃ i, extCell (s.read (s.pc + 1)) = some i ∧ exec .prefixCb s = exec i s := by
  obtain ⟨i, hc, _, hx⟩ := extendedRule_eq (s.read (s.pc + 1)) s
  exact ⟨i, hc, by rw [exec_prefixCb s h, hx, exec_eq_formRule]⟩

/-! ## PC -/

/-- A row other than the escape's that completes has no failure, so PC is where its form leaves it. -/
theorem pc_of_exec_next {s t : State} {i : Instr} (hesc : i.form ≠ .escape) (h : exec i s = .next t) :
    t.pc = s.pcAfter i.form := by
  have hill : ∀ op, i.form ≠ .illegal op := fun op hf => by
    rw [exec_of_form hf] at h
    cases h
  have hsp : i.form ≠ .ldAbsSp 0xFFFF := fun hf => by
    rw [exec_of_form hf] at h
    cases h
  rw [exec_eq s (wellFormed_iff.mpr ⟨hill, hesc⟩) hsp] at h
  cases h
  rfl

/-- The escape row, when it completes, leaves PC two further (R306). -/
theorem pc_of_exec_prefixCb_next {s t : State} (h : exec .prefixCb s = .next t) : t.pc = s.pc + 2 := by
  have hpc : s.pc.toNat ≠ 0xFFFF := fun hpc => by
    rw [exec_prefixCb_at_top s hpc] at h
    cases h
  obtain ⟨i, hc, hx⟩ := exec_prefixCb_extCell s hpc
  rw [hx, exec_extCell s hc] at h
  cases h
  rfl

theorem rowLength_of_not_escape {i : Instr} (h : i.form ≠ .escape) : rowLength i = i.form.bytes.length := by
  unfold rowLength
  split
  · contradiction
  · rfl

/-- Settles O10: the escape row's PC is its extended instruction's, and any other row's is where its form leaves it. -/
theorem pcIsTheTargetOrTheNextInstruction : Obligations.PcIsTheTargetOrTheNextInstruction := by
  intro i s t h
  by_cases hesc : i.form = .escape
  · obtain rfl := prefixCb_of_form hesc
    exact pc_of_exec_prefixCb_next h
  · rw [pc_of_exec_next hesc h, rowLength_of_not_escape hesc]
    cases i.form <;> rfl

end Sys2Proof.Machine
end

section
/-! PROOF. What a step fetches and runs (R121 to R124, R126, R131, R305, R306). -/

namespace Sys2Proof.Machine

open Sys2Proof.Laws

variable {s : State} {i : Instr}

/-! ## The step runs what stands at PC -/

/-- Settles O6: the bytes as far as memory reaches are the window that the step decodes. -/
theorem stepRunsTheDecodedInstruction : Obligations.StepRunsTheDecodedInstruction := by
  intro s i rest hm
  refine ⟨fun hpc hd => ?_, fun hpc hd => ?_, fun hpc hd => ?_⟩
  · exact step_of_decode s hm (by rw [s.window_full hpc, hd])
  · exact step_of_decode s hm (by rw [s.window_two hpc, hd])
  · exact step_of_decode s hm (by rw [s.window_one hpc, hd])

/-- A suspended step reports the cost 4 (R122). -/
theorem stepCost_suspended (h : s.mode ≠ .running) : stepCost s = some 4 := by
  cases hm : s.mode with
  | running => exact absurd hm h
  | halted | stopped => simp only [stepCost, hm, Config.suspendedCycles]

/-- Settles O7: Halted and Stopped are the modes in which a step is idle. -/
theorem suspendedStepChangesNothing : Obligations.SuspendedStepChangesNothing := by
  intro s h
  have hm : s.mode ≠ .running := by
    obtain h | h := h <;> rw [h] <;> decide
  exact ⟨step_suspended s hm, stepCost_suspended hm⟩

/-! ## Illegal opcodes -/

/-- No cell of the base map is empty (R93, R133). -/
theorem exists_baseCell (op : Byte) : ∃ cell, baseCell op = some cell := by
  cases hc : baseCell op with
  | none => exact (hc ▸ baseCell_encodes op : CellEncodes op none).elim
  | some cell => exact ⟨cell, rfl⟩

/-- Every byte is the first byte of some row (R93, R133). -/
theorem exists_encode_cons (op : Byte) : ∃ i tail, encode i = op :: tail := by
  obtain ⟨cell, hc⟩ := exists_baseCell op
  have he := cellEncodes_of_baseCell hc
  cases cell with
  | whole i => exact ⟨i, _, he⟩
  | imm8 f => exact ⟨f 0, _, he 0⟩
  | imm16 f => exact ⟨f 0, _, he 0⟩
  | sub => exact ⟨.prefixCb, [], congrArg ([·]) (Eq.symm he)⟩

/-- The illegal values have no cost, and the escape byte is none of them (R96, R99). -/
theorem baseCycles_of_illegal : ∀ op ∈ illegalOpcodes, op ≠ Config.escapeByte ∧ baseCycles op = none := by decide

/-- An illegal row reports no cost (R129, R131). -/
theorem cycleCost_illegal {op : Byte} (h : i.form = .illegal op) (s : State) : cycleCost i s = none := by
  obtain ⟨hesc, hcost⟩ := baseCycles_of_illegal op (illegal_of_form h).1
  rw [cost_of_form h]
  simp [Form.bytes, bytesCost, hesc, hcost]

/-- A Running step at an illegal byte fails with it and PC, whatever bytes follow (R131, R305). -/
theorem step_illegal (hm : s.mode = .running) (hop : s.read s.pc ∈ illegalOpcodes) :
    step s = .fault (.unimplementedOpcode (s.read s.pc) s.pc) := by
  obtain ⟨i, tail, he⟩ := exists_encode_cons (s.read s.pc)
  have hform := form_of_illegal_byte he hop
  have hd : decode s.window = .ok (i, s.bytesFrom (s.pc.toNat + 1) 2) := by
    rw [s.window_cons, decode, (illegal_of_form hform).2]
  rw [step_of_decode s hm hd, exec_of_form hform]
  rfl

/-- Settles O27: the illegal rows are the cells of the eleven values, and a step decodes one from its first byte. -/
theorem illegalOpcodeFailsWithItsAddress : Obligations.IllegalOpcodeFailsWithItsAddress := by
  refine ⟨fun op => ⟨fun hop => ?_, fun ⟨_, hf⟩ => (illegal_of_form hf).1⟩, fun i op hf => ?_⟩
  · obtain ⟨i, _, he⟩ := exists_encode_cons op
    exact ⟨i, form_of_illegal_byte he hop⟩
  · refine ⟨row_of_form hf, fun s => ⟨exec_of_form hf s, cycleCost_illegal hf s⟩, ?_⟩
    rintro s hm rfl
    exact step_illegal hm (illegal_of_form hf).1

/-! ## The cost of a step -/

/-- A step that runs an instruction reports the instruction's cost (R129). -/
theorem stepCost_of_exec_next {t : State} (hm : s.mode = .running) (hf : fetch s = .ok i) (hx : exec i s = .next t) :
    stepCost s = cycleCost i s := by
  simp only [stepCost, hm, hf, hx]

/-- A failed step reports no cost (R129). -/
theorem stepCost_of_step_fault {f : Fault} (h : step s = .fault f) : stepCost s = none := by
  have hm : s.mode = .running := Decidable.byContradiction fun hm => by
    rw [step_suspended s hm] at h
    cases h
  rw [step_running s hm] at h
  cases hf : fetch s with
  | error e => simp only [stepCost, hm, hf]
  | ok i =>
    have hx : exec i s = .fault f := by rwa [hf] at h
    simp only [stepCost, hm, hf, hx]

/-- The extended costs by the numbers of the sub-opcode (R97). -/
theorem extCycles_eq :
    ∀ c : Byte, extCycles c = if c.toNat % 8 ≠ 6 then 8 else if c.toNat / 64 = 1 then 12 else 16 := by decide

theorem cycleCost_extended {cbop : Byte} (he : encode i = [Config.escapeByte, cbop]) :
    cycleCost i s = some (extCycles cbop) := by
  simp [cycleCost, he]

theorem cycleCost_base {op : Byte} {operands : List Byte} {taken notTaken : Nat} (he : encode i = op :: operands)
    (hop : op ≠ Config.escapeByte) (hcell : baseCycles op = some (taken, notTaken)) :
    cycleCost i s = some (if takes i s then taken else notTaken) := by
  simp [cycleCost, he, hop, hcell]

/-- The transfers with a condition are those of four forms (R282, R285, R287, R289). -/
theorem takes_eq :
    takes i s = match i.form with
      | .jpIf cc _ | .jrIf cc _ | .callIf cc _ | .retIf cc => s.holdsCond cc
      | _ => true := by
  unfold takes condition
  cases i.form <;> simp

/-- Settles O11: a step reports the cost of the instruction it fetched, and that is its table's entry. -/
theorem stepReportsTheTableCost : Obligations.StepReportsTheTableCost := by
  refine fun s => ⟨stepCost_suspended, fun f => stepCost_of_step_fault, fun i t hm hf hx =>
    ⟨stepCost_of_exec_next hm hf hx, fun cbop he => ?_, fun op operands taken notTaken he hop hcell => ?_⟩⟩
  · rw [cycleCost_extended he, extCycles_eq]
  · rw [cycleCost_base he hop hcell, takes_eq]
    cases i.form <;> rfl

/-! ## The escape byte -/

/-- Below the top the window holds the byte after the opcode too (R123). -/
theorem State.window_cons_cons (h : s.pc.toNat ≠ 0xFFFF) :
    s.window = s.read s.pc :: s.read (s.pc + 1) :: s.bytesFrom (s.pc.toNat + 1 + 1) 1 := by
  have hlt := s.pc.isLt
  have hnext : BitVec.ofNat 16 (s.pc.toNat + 1) = s.pc + 1 := by bv_omega
  rw [s.window_cons, s.bytesFrom_succ, hnext, if_pos (by unfold Config.topAddress; omega)]

/-- A 0xCB byte at PC with its sub-opcode in memory is fetched as the sub-opcode's row (R92, R124). -/
theorem fetch_escape (hb : s.read s.pc = Config.escapeByte) (h : s.pc.toNat ≠ 0xFFFF)
    (hc : extCell (s.read (s.pc + 1)) = some i) : fetch s = .ok i := by
  simp only [fetch, State.window_cons_cons h, hb, decode_escape, decodeExtended, hc]

/-- A 0xCB byte at PC = 0xFFFF is fetched as the escape row (R124). -/
theorem fetch_escape_at_top (hb : s.read s.pc = Config.escapeByte) (h : s.pc.toNat = 0xFFFF) :
    fetch s = .ok .prefixCb := by
  simp only [fetch, s.window_one h, hb, decode_escape, decodeExtended]

theorem step_of_fetch (hm : s.mode = .running) (hf : fetch s = .ok i) : step s = exec i s := by
  simp only [step_running s hm, hf]

/-- A Running step at a 0xCB byte is the escape row's rule, at the top of memory too (R124, R306). -/
theorem step_escape (hm : s.mode = .running) (hb : s.read s.pc = Config.escapeByte) :
    step s = exec .prefixCb s := by
  by_cases hpc : s.pc.toNat = 0xFFFF
  · exact step_of_fetch hm (fetch_escape_at_top hb hpc)
  · obtain ⟨i, hc, hx⟩ := exec_prefixCb_extCell s hpc
    rw [hx, step_of_fetch hm (fetch_escape hb hpc hc)]

/-- Settles O28: below the top the escape row and the fetch select the same extended row. -/
theorem escapeRunsTheExtendedInstruction : Obligations.EscapeRunsTheExtendedInstruction := by
  refine ⟨rfl, exec_prefixCb_at_top, fun s hpc => ?_, fun s => step_escape⟩
  obtain ⟨i, hc, hx⟩ := exec_prefixCb_extCell s hpc
  have hdone := exec_extCell s hc
  refine ⟨i, _, ?_, hx, hdone, rfl, fun hm hb => ?_⟩
  · exact (encode_of_extCell hc) ▸ decode_encode i
  · have hf := fetch_escape hb hpc hc
    exact ⟨step_of_fetch hm hf, stepCost_of_exec_next hm hf hdone⟩

end Sys2Proof.Machine
end

section
/-! PROOF. Exactly when a step fails (R130, R131, R320 to R322). -/

namespace Sys2Proof.Machine

open Sys2Proof.Laws

variable {s : State} {n : Nat}

/-- Why a Running step fails, and with which failure: an illegal opcode, an instruction byte past 0xFFFF, or
LD (a16),SP with a16 = 0xFFFF (R320 to R322, R55). -/
def StepFailure (s : State) (f : Fault) : Prop :=
  (s.read s.pc ∈ illegalOpcodes ∧ f = .unimplementedOpcode (s.read s.pc) s.pc) ∨
  (f = .outOfRangeAddress 0x10000 ∧
    ((∃ n, lengthOf (s.read s.pc) = some n ∧ s.pc.toNat + n > 0x10000) ∨
     (s.pc.toNat ≤ 0xFFFD ∧ s.read s.pc = 0x08 ∧ s.read (s.pc + 1) = 0xFF ∧ s.read (s.pc + 2) = 0xFF)))

/-- An opcode is illegal and has no length, or it has the length of its cell (R95, R99). -/
theorem lengthOf_cases (op : Byte) :
    (op ∈ illegalOpcodes ∧ lengthOf op = none) ∨
    ∃ cell, baseCell op = some cell ∧ op ∉ illegalOpcodes ∧ lengthOf op = some (cellLength cell) := by
  by_cases hop : op ∈ illegalOpcodes
  · exact .inl ⟨hop, (lengthOf_eq op).trans (if_pos hop)⟩
  · obtain ⟨cell, hc⟩ := exists_baseCell op
    exact .inr ⟨cell, hc, hop, by rw [lengthOf_eq, if_neg hop, hc]; rfl⟩

theorem cellLength_le_three (cell : BaseCell) : cellLength cell ≤ 3 := by
  cases cell <;> simp [cellLength, extLength]

/-- The window holds every byte of memory that an instruction at PC can reach (R123, R126). -/
theorem State.le_window_length (hn : n ≤ 3) (h : s.pc.toNat + n ≤ 0x10000) : n ≤ s.window.length := by
  have hlt := s.pc.isLt
  have hpc : s.pc.toNat ≤ 0xFFFD ∨ s.pc.toNat = 0xFFFE ∨ s.pc.toNat = 0xFFFF := by omega
  obtain hpc | hpc | hpc := hpc
  · rw [s.window_full hpc]
    exact hn
  · rw [s.window_two hpc]
    simp only [List.length_cons, List.length_nil]
    omega
  · rw [s.window_one hpc]
    simp only [List.length_cons, List.length_nil]
    omega

/-- As many bytes as the format of the first one's cell needs decode (R80, R101). -/
theorem decode_of_cellLength {op : Byte} {more : List Byte} {cell : BaseCell} (hc : baseCell op = some cell)
    (hlen : cellLength cell ≤ (op :: more).length) :
    ∃ i rest, decode (op :: more) = .ok (i, rest) ∧ i ≠ .prefixCb := by
  suffices h : ∃ r, decode (op :: more) = .ok r by
    obtain ⟨⟨i, rest⟩, hd⟩ := h
    refine ⟨i, rest, hd, ?_⟩
    rintro rfl
    cases decode_prefixCb hd
    cases hc
    simp [cellLength, extLength] at hlen
  cases cell with
  | whole i => simp [decode, hc]
  | imm8 f =>
    match more with
    | [] => simp [cellLength] at hlen
    | x :: rest => simp [decode, hc, decodeImm8]
  | imm16 f =>
    match more with
    | [] | [_] => simp [cellLength] at hlen
    | lo :: hi :: rest => simp [decode, hc, decodeImm16]
  | sub =>
    match more with
    | [] => simp [cellLength, extLength] at hlen
    | c :: rest =>
      obtain ⟨i, hi, _⟩ := extCell_encodes c
      simp [decode, hc, decodeExtended, hi]

/-! ## The failures -/

/-- A Running step fails where a byte of the instruction would lie past 0xFFFF (R124, R126, R322). -/
theorem step_past_top (hm : s.mode = .running) (hlen : lengthOf (s.read s.pc) = some n)
    (h : s.pc.toNat + n > 0x10000) : step s = .fault (.outOfRangeAddress 0x10000) := by
  by_cases hb : s.read s.pc = Config.escapeByte
  · have hn : 2 = n := Option.some.inj ((hb ▸ hlen : lengthOf Config.escapeByte = some n))
    have hlt := s.pc.isLt
    rw [step_escape hm hb, exec_prefixCb_at_top s (by omega)]
  · obtain ⟨i, tail, he⟩ := exists_encode_cons (s.read s.pc)
    have hp : i ≠ .prefixCb := by
      rintro rfl
      exact hb (List.cons.inj he).1.symm
    have hrow := encode_length hp he
    obtain ⟨_, hnone⟩ | ⟨cell, hc, _, hcell⟩ := lengthOf_cases (s.read s.pc)
    · cases hnone.symm.trans hlen
    · have hn : (encode i).length = n := by
        rw [hc] at hrow
        exact Option.some.inj (hrow.symm.trans (hcell.symm.trans hlen))
      exact fetchFailsPastTop i s hm (by rw [he]; rfl) (hn ▸ h)

/-- A Running step at LD (0xFFFF),SP fails (R55, R174). -/
theorem step_storeSp_top (hm : s.mode = .running) (hpc : s.pc.toNat ≤ 0xFFFD) (hop : s.read s.pc = 0x08)
    (hlo : s.read (s.pc + 1) = 0xFF) (hhi : s.read (s.pc + 2) = 0xFF) :
    step s = .fault (.outOfRangeAddress 0x10000) := by
  have hd : decode s.window = .ok (.ldAtA16Sp 0xFFFF, []) := by
    rw [s.window_full hpc, hop, hlo, hhi]
    rfl
  exact (step_of_decode s hm hd).trans (storeSp_top s)

theorem step_of_failure {f : Fault} (hm : s.mode = .running) (h : StepFailure s f) : step s = .fault f := by
  obtain ⟨hop, rfl⟩ | ⟨rfl, ⟨n, hlen, htop⟩ | ⟨hpc, hop, hlo, hhi⟩⟩ := h
  · exact step_illegal hm hop
  · exact step_past_top hm hlen htop
  · exact step_storeSp_top hm hpc hop hlo hhi

/-! ## Everything else succeeds -/

/-- Where LD (0xFFFF),SP is decoded its three bytes stand at PC (R90, R123). -/
theorem reads_of_decode_storeSp_top {i : Instr} {rest : List Byte} (hd : decode s.window = .ok (i, rest))
    (hf : i.form = .ldAbsSp 0xFFFF) (hpc : s.pc.toNat ≤ 0xFFFD) :
    s.read s.pc = 0x08 ∧ s.read (s.pc + 1) = 0xFF ∧ s.read (s.pc + 2) = 0xFF := by
  have hb := encode_append_of_decode hd
  rw [encode, hf, s.window_full hpc] at hb
  obtain ⟨hop, hoperand⟩ := List.cons.inj hb
  obtain ⟨hlo, hhigh⟩ := List.cons.inj hoperand
  exact ⟨hop.symm, hlo.symm, (List.cons.inj hhigh).1.symm⟩

/-- A Running step with none of the failures runs a well-formed instruction other than LD (0xFFFF),SP. -/
theorem step_completes (hm : s.mode = .running) (h : ∀ f, ¬ StepFailure s f) : ∃ t, step s = .next t := by
  obtain ⟨hop, _⟩ | ⟨cell, hc, hop, hlen⟩ := lengthOf_cases (s.read s.pc)
  · exact absurd (.inl ⟨hop, rfl⟩) (h _)
  have hfit : s.pc.toNat + cellLength cell ≤ 0x10000 :=
    Nat.le_of_not_gt fun htop => h _ (.inr ⟨rfl, .inl ⟨_, hlen, htop⟩⟩)
  have hwin := s.le_window_length (cellLength_le_three cell) hfit
  rw [s.window_cons] at hwin
  obtain ⟨i, rest, hd, hp⟩ := decode_of_cellLength hc hwin
  obtain ⟨tail, he⟩ := encode_cons_of_decode hd
  rw [← s.window_cons] at hd
  have hwf : i.wellFormed = true := by
    refine wellFormed_iff.mpr ⟨fun op hf => hop ?_, fun hf => hp (prefixCb_of_form hf)⟩
    obtain rfl : op = s.read s.pc := (List.cons.inj ((bytes_of_form hf).1.symm.trans he)).1
    exact (illegal_of_form hf).1
  have hsp : i.form ≠ .ldAbsSp 0xFFFF := fun hf => by
    have hlength := encode_length hp he
    rw [hc, encode, hf] at hlength
    have hthree : cellLength cell = 3 := Option.some.inj hlength
    have hpc : s.pc.toNat ≤ 0xFFFD := by omega
    exact h _ (.inr ⟨rfl, .inr ⟨hpc, reads_of_decode_storeSp_top hd hf hpc⟩⟩)
  exact ⟨_, (step_of_decode s hm hd).trans (exec_eq s hwf hsp)⟩

/-- A step succeeds, or it is Running and fails for one of the reasons. -/
theorem step_outcomes (s : State) : (∃ t, step s = .next t) ∨ s.mode = .running ∧ ∃ f, StepFailure s f := by
  by_cases hm : s.mode = .running
  · by_cases h : ∃ f, StepFailure s f
    · exact .inr ⟨hm, h⟩
    · exact .inl (step_completes hm fun f hf => h ⟨f, hf⟩)
  · exact .inl ⟨s, step_suspended s hm⟩

/-- Settles O8: a Running step with a reason to fail fails with that reason's failure, and every other step succeeds. -/
theorem stepFailsExactlyWhenTheSpecSaysSo : Obligations.StepFailsExactlyWhenTheSpecSaysSo := by
  intro s
  obtain ⟨t, ht⟩ | ⟨hm, f, hf⟩ := step_outcomes s
  · refine ⟨fun f => iff_of_false ?_ fun ⟨hm, hf⟩ => ?_, fun r => ?_⟩
    · rw [ht]; nofun
    · cases ht.symm.trans (step_of_failure hm hf)
    · rw [ht]; nofun
  · have hstep := step_of_failure hm hf
    refine ⟨fun g => ⟨fun hg => ?_, fun ⟨_, hg⟩ => step_of_failure hm hg⟩, fun r => ?_⟩
    · cases hstep.symm.trans hg
      exact ⟨hm, hf⟩
    · rw [hstep]; nofun

end Sys2Proof.Machine
end

section
/-! PROOF. The 8-bit loads and stores (R140 to R158). -/

namespace Sys2Proof.Machine

variable {s t u : State} {i : Instr}

/-! ## Frames -/

/-- What two changes one after the other leave alone is what both leave alone. -/
theorem Frame.trans {w w' : List Reg8} {l l' : List Word} (h : Frame s t w l) (h' : Frame t u w' l') :
    Frame s u (w ++ w') (l ++ l') := by
  obtain ⟨hregs, hmem, hmode, hime⟩ := h
  obtain ⟨hregs', hmem', hmode', hime'⟩ := h'
  refine ⟨fun r hr => ?_, fun a ha => ?_, hmode'.trans hmode, hime'.trans hime⟩
  · rw [List.mem_append, not_or] at hr
    exact (hregs' r hr.2).trans (hregs r hr.1)
  · rw [List.mem_append, not_or] at ha
    exact (hmem' a ha.2).trans (hmem a ha.1)

theorem Frame.refl (s : State) : Frame s s [] [] := ⟨fun _ _ => rfl, fun _ _ => rfl, rfl, rfl⟩

/-- A write leaves every other byte, the registers and the control state alone (R52). -/
theorem State.write_frame (s : State) (a : Word) (v : Byte) : Frame s (s.write a v) [] [a] :=
  ⟨fun q _ => s.write_reg a v q, fun _ hq => s.read_write_ne v (List.ne_of_not_mem_cons hq), rfl, rfl⟩

/-! ## LD between operand locations and of an immediate -/

/-- LD (HL),(HL) is no row: its opcode 0x76 is HALT's (R93, R301). -/
theorem form_ne_ld_atHl_atHl (i : Instr) : i.form ≠ .ld .atHl .atHl := by
  intro h
  have hhalt : i = .halt := encode_injective (by rw [encode, h]; rfl)
  rw [hhalt] at h
  cases h

theorem not_both_atHl_of_form_ld {dst src : Loc} (h : i.form = .ld dst src) : dst ≠ .atHl ∨ src ≠ .atHl := by
  cases dst with
  | reg r => exact .inl nofun
  | atHl =>
    cases src with
    | reg q => exact .inr nofun
    | atHl => exact absurd h (form_ne_ld_atHl_atHl i)

theorem cycleCost_ld {dst src : Loc} (h : i.form = .ld dst src) (s : State) :
    cycleCost i s = some (byLoc dst (byLoc src 4 8) 8) := by
  rw [cost_of_form h]
  cases dst with
  | atHl =>
    cases src with
    | atHl => exact absurd h (form_ne_ld_atHl_atHl i)
    | reg q => cases q <;> rfl
  | reg r =>
    cases src with
    | atHl => cases r <;> rfl
    | reg q => cases r <;> cases q <;> rfl

theorem cycleCost_ldImm {dst : Loc} {d8 : Byte} (h : i.form = .ldImm dst d8) (s : State) :
    cycleCost i s = some (byLoc dst 8 12) := by
  rw [cost_of_form h]
  cases dst with
  | atHl => rfl
  | reg r => cases r <;> rfl

/-- An instruction of `n` bytes that writes a location leaves the value there, and nothing else but PC changed. -/
theorem State.setLoc_advance (s : State) (dst : Loc) (v : Byte) (n : Nat) :
    Holds s ((s.setLoc dst v).advance n) dst v ∧
    Frame s ((s.setLoc dst v).advance n) (writtenRegs dst) (s.storedAt dst) ∧
    ((s.setLoc dst v).advance n).f = s.f ∧ ((s.setLoc dst v).advance n).sp = s.sp ∧
    ((s.setLoc dst v).advance n).pc = s.nextPc n :=
  ⟨(s.setLoc_holds dst v).advance n, (s.setLoc_frame dst v).advance n, s.setLoc_f dst v, s.setLoc_sp dst v,
    s.setLoc_nextPc dst v n⟩

/-- Settles O29: the rule writes the source's value to the destination, and 0x76 is not among the rows. -/
theorem loadCopiesTheSourceLocation : Obligations.LoadCopiesTheSourceLocation :=
  fun _ dst src h => ⟨row_of_form h, not_both_atHl_of_form_ld h, fun s =>
    ⟨_, exec_of_form h s, cycleCost_ld h s, s.setLoc_advance dst (s.loc src) 1⟩⟩

/-- Settles O30: the rule writes the immediate to the destination. -/
theorem loadImmediateStoresTheByte : Obligations.LoadImmediateStoresTheByte :=
  fun _ dst d8 h => ⟨row_of_form h, fun s =>
    ⟨_, exec_of_form h s, cycleCost_ldImm h s, s.setLoc_advance dst d8 2⟩⟩

/-! ## A through BC, DE, HL and 0xFF00 + C -/

/-- The registers an accumulator access moves besides A (R155 to R158). -/
def movedRegs : AccAddr → List Reg8
  | .bc | .de | .highC => []
  | .hlInc | .hlDec => [.h, .l]

theorem State.stepAccAddress_frame (s : State) (x : AccAddr) : Frame s (s.stepAccAddress x) (movedRegs x) [] := by
  cases x with
  | hlInc | hlDec => exact s.setPair_frame .hl _
  | bc | de | highC => exact Frame.refl s

/-- The address an accumulator access uses, by the registers' values (R89, R145 to R158). -/
theorem State.accAddress_eq (s : State) (x : AccAddr) :
    s.accAddress x = match x with
      | .bc => s.bc
      | .de => s.de
      | .hlInc => s.hl
      | .hlDec => s.hl
      | .highC => BitVec.ofNat 16 (0xFF00 + s.c.toNat) := by
  cases x with
  | highC => exact highAddress_eq s.c
  | bc | de | hlInc | hlDec => rfl

theorem cycleCost_ldLoad {x : AccAddr} (h : i.form = .ldLoad x) (s : State) : cycleCost i s = some 8 := by
  rw [cost_of_form h]
  cases x <;> rfl

theorem cycleCost_ldStore {x : AccAddr} (h : i.form = .ldStore x) (s : State) : cycleCost i s = some 8 := by
  rw [cost_of_form h]
  cases x <;> rfl

/-- A load of A changes A and the HL it moves, and no byte of memory (R145, R146, R153, R156, R158). -/
theorem loadAcc_frame (s : State) (x : AccAddr) (v : Byte) :
    Frame s (((s.setReg .a v).stepAccAddress x).advance 1) (.a :: movedRegs x) [] :=
  ((s.setLoc_frame (.reg .a) v).trans ((s.setReg .a v).stepAccAddress_frame x)).advance 1

/-- A store of A changes its one byte and the HL it moves (R147, R148, R154, R155, R157). -/
theorem storeAcc_frame (s : State) (x : AccAddr) (a : Word) (v : Byte) :
    Frame s (((s.write a v).stepAccAddress x).advance 1) (movedRegs x) [a] :=
  ((s.write_frame a v).trans ((s.write a v).stepAccAddress_frame x)).advance 1

/-- Settles O31: A is loaded from the address formed before HL moves, and HL moves by one. -/
theorem accumulatorLoadReadsItsAddress : Obligations.AccumulatorLoadReadsItsAddress := by
  refine fun i x h => ⟨row_of_form h, fun s => ?_⟩
  have hframe := loadAcc_frame s x (s.read (s.accAddress x))
  refine ⟨_, exec_of_form h s, cycleCost_ldLoad h s, by simp, by simp, by simp [State.nextPc], ?_⟩
  cases x with
  | bc | de => exact ⟨rfl, hframe⟩
  | hlInc | hlDec => exact ⟨rfl, joinBytes_hi_lo _, hframe⟩
  | highC => exact ⟨congrArg s.read (s.accAddress_eq .highC), hframe⟩

/-- Settles O32: A is stored at the address formed before HL moves, and moving HL writes no memory. -/
theorem accumulatorStoreWritesItsAddress : Obligations.AccumulatorStoreWritesItsAddress := by
  refine fun i x h => ⟨row_of_form h, fun s => ?_⟩
  obtain ⟨hregs, hmem, hcontrol⟩ := storeAcc_frame s x (s.accAddress x) s.a
  refine ⟨_, exec_of_form h s, cycleCost_ldStore h s, by simp, by simp, by simp [State.nextPc], fun a ha => ?_,
    hcontrol, ?_⟩
  · obtain rfl : a = s.accAddress x := ha.trans (s.accAddress_eq x).symm
    refine ⟨hmem, fun hm => ?_⟩
    rw [State.advance_read, State.stepAccAddress_read, State.read_write_self _ _ hm]
  · cases x with
    | bc | de | highC => exact hregs
    | hlInc | hlDec => exact ⟨hregs, joinBytes_hi_lo _⟩

/-! ## A at an absolute address and in the high page -/

/-- An instruction of `n` bytes that stores a byte leaves it there, and nothing else but PC changed. -/
theorem State.write_advance (s : State) (a : Word) (v : Byte) (n : Nat) :
    (s.mem.wf = true → ((s.write a v).advance n).read a = v) ∧ Frame s ((s.write a v).advance n) [] [a] ∧
    ((s.write a v).advance n).f = s.f ∧ ((s.write a v).advance n).sp = s.sp ∧
    ((s.write a v).advance n).pc = s.nextPc n :=
  ⟨fun hm => State.read_write_self a v hm, (s.write_frame a v).advance n, rfl, rfl, rfl⟩

/-- Settles O33: each rule moves one byte between A and its address, the high page's being 0xFF00 + a8. -/
theorem absoluteAndHighPageAccessesMoveA : Obligations.AbsoluteAndHighPageAccessesMoveA := by
  refine ⟨fun a16 => ?ldAbs, fun a16 => ?stAbs, fun a8 => ?ldHigh, fun a8 => ?stHigh⟩
  case ldAbs =>
    have hform : (Instr.ldAAtA16 a16).form = .ldAbsLoad a16 := rfl
    exact ⟨row_of_form hform, fun s => ⟨exec_of_form hform s, (cost_of_form hform s).trans rfl⟩⟩
  case stAbs =>
    have hform : (Instr.ldAtA16A a16).form = .ldAbsStore a16 := rfl
    exact ⟨row_of_form hform, fun s => ⟨_, exec_of_form hform s, (cost_of_form hform s).trans rfl,
      s.write_advance a16 s.a 3⟩⟩
  case ldHigh =>
    have hform : (Instr.ldhAAtA8 a8).form = .ldhLoad a8 := rfl
    refine ⟨row_of_form hform, fun s => ⟨?_, (cost_of_form hform s).trans rfl⟩⟩
    rw [← highAddress_eq]
    exact exec_of_form hform s
  case stHigh =>
    have hform : (Instr.ldhAtA8A a8).form = .ldhStore a8 := rfl
    refine ⟨row_of_form hform, fun s a ha => ?_⟩
    obtain rfl : a = highAddress a8 := ha.trans (highAddress_eq a8).symm
    exact ⟨_, exec_of_form hform s, (cost_of_form hform s).trans rfl, s.write_advance (highAddress a8) s.a 2⟩

end Sys2Proof.Machine
end

section
/-! PROOF. The 16-bit loads, SP with a displacement, PUSH and POP (R170 to R173, R175 to R179, R233). -/

namespace Sys2Proof.Machine

variable {i : Instr}

/-! ## The bytes of a pair and of F -/

/-- Writing the four flags replaces F by their byte and nothing else (R25, R26). -/
theorem State.setFlags_eq (s : State) (fl : Flags) : s.setFlags fl = { s with f := fl.toByte } :=
  congrArg (fun v => { s with f := v }) (maskF_toByte fl)

/-- A joined word written to a pair puts its two bytes in the pair's registers; F keeps bits 7..4 alone (R23, R26). -/
theorem State.setStackPair_join (s : State) (rp2 : StackPair) (hi lo : Byte) :
    s.setStackPair rp2 (joinBytes hi lo) = match rp2 with
      | .bc => { s with b := hi, c := lo }
      | .de => { s with d := hi, e := lo }
      | .hl => { s with h := hi, l := lo }
      | .af => { s with a := hi, f := lo &&& 0xF0 } := by
  cases rp2 <;> simp only [State.setStackPair, State.setHl, State.setF, maskF, hiByte_join, loByte_join]

/-! ## LD rp,d16 and LD SP,HL -/

theorem cycleCost_ldPair {rp : Pair} {d16 : Word} (h : i.form = .ldPair rp d16) (s : State) :
    cycleCost i s = some 12 := by
  rw [cost_of_form h]
  cases rp <;> rfl

/-- Settles O34: the rule writes the operand to the pair byte by byte, and LD SP,HL copies the pair HL. -/
theorem sixteenBitLoadsAreByteCorrect : Obligations.SixteenBitLoadsAreByteCorrect := by
  have hform : Instr.ldSpHl.form = .ldSpHl := rfl
  refine ⟨fun i rp d16 h => ⟨row_of_form h, fun s => ?_⟩, row_of_form hform, fun s =>
    ⟨exec_of_form hform s, (cost_of_form hform s).trans rfl⟩⟩
  refine ⟨_, exec_of_form h s, cycleCost_ldPair h s, ?_, (s.setPair_frame rp d16).advance 3, s.setPair_f rp d16,
    s.setPair_sp_of_ne rp d16, s.setPair_nextPc rp d16 3⟩
  cases rp with
  | bc | de | hl => exact ⟨rfl, rfl⟩
  | sp => rfl

/-! ## SP plus a displacement -/

/-- The flags of SP plus a displacement, by the sums of numbers that overflow bits 3 and 7 (R172). -/
theorem spAddFlags_toByte (sp : Word) (e8 : Byte) :
    (spAddFlags sp e8).toByte = flagByte false false (decide (sp.toNat % 16 + e8.toNat % 16 ≥ 16))
      (decide (sp.toNat % 256 + e8.toNat ≥ 256)) := rfl

/-- Settles O36: both rules write the sum of SP and the displacement and the flags of the low bytes' sum. -/
theorem spPlusDisplacementSetsByteCarries : Obligations.SpPlusDisplacementSetsByteCarries := by
  intro e8 s sum fl hsum hfl
  obtain rfl : sum = spAdd s.sp e8 := hsum.trans (spAdd_eq s.sp e8).symm
  obtain rfl : fl = (spAddFlags s.sp e8).toByte := hfl.trans (spAddFlags_toByte s.sp e8).symm
  have hld : (Instr.ldHlSpE8 e8).form = .ldHlSp e8 := rfl
  have hadd : (Instr.addSpE8 e8).form = .addSp e8 := rfl
  refine ⟨row_of_form hld, row_of_form hadd, ?_, (cost_of_form hld s).trans rfl, ?_, (cost_of_form hadd s).trans rfl⟩
  · rw [exec_of_form hld, formRule, loadHlSp, State.setFlags_eq]
    rfl
  · rw [exec_of_form hadd, formRule, addSp, State.setFlags_eq]
    rfl

/-! ## PUSH and POP -/

theorem cycleCost_push {rp2 : StackPair} (h : i.form = .push rp2) (s : State) : cycleCost i s = some 16 := by
  rw [cost_of_form h]
  cases rp2 <;> rfl

theorem cycleCost_pop {rp2 : StackPair} (h : i.form = .pop rp2) (s : State) : cycleCost i s = some 12 := by
  rw [cost_of_form h]
  cases rp2 <;> rfl

/-- Settles O37: the rule pushes the pair, and a push changes its two bytes and SP alone. -/
theorem pushStoresThePairBelowSp : Obligations.PushStoresThePairBelowSp := by
  refine fun i rp2 h => ⟨row_of_form h, fun s => ?_⟩
  have hpushed := s.push16_pushed (s.stackPair rp2)
  refine ⟨_, exec_of_form h s, cycleCost_push h s, ?_, (s.push16_frame _).advance 1, rfl, rfl⟩
  cases rp2 with
  | bc | de | hl | af => exact hpushed

/-- Settles O38: the rule writes the word on top of the stack to the pair, whose bytes are the two that were read. -/
theorem popLoadsThePairAndRaisesSp : Obligations.PopLoadsThePairAndRaisesSp := by
  refine fun i rp2 h => ⟨row_of_form h, fun s hi lo hhi hlo => ⟨cycleCost_pop h s, ?_⟩⟩
  subst hhi hlo
  rw [exec_of_form h, formRule, popPair, State.top16, State.setStackPair_join]
  cases rp2 with
  | bc | de | hl | af => rfl

end Sys2Proof.Machine
end

section
/-! PROOF. The accumulator operations on A and a second operand (R190 to R219). -/

namespace Sys2Proof.Machine

variable {s : State} {i : Instr} {op : AluOp} {x : AluForm}

/-! ## The row, the cost and the rule of an accumulator operation -/

theorem row_alu (h : i.form = x.form op) : Row i (x.bytes op.code) := by
  have hbytes : (x.form op).bytes = x.bytes op.code := by cases x <;> rfl
  exact hbytes ▸ row_of_form h

theorem cycleCost_alu (h : i.form = x.form op) (s : State) : cycleCost i s = some x.cost := by
  rw [cost_of_form h]
  cases x with
  | imm d8 => cases op <;> rfl
  | loc src =>
    cases src with
    | atHl => cases op <;> rfl
    | reg r => cases op <;> cases r <;> rfl

theorem exec_alu (h : i.form = x.form op) (s : State) :
    exec i s = .next ((s.accumulate op (x.value s)).advance x.length) := by
  rw [exec_of_form h]
  cases x <;> rfl

/-- What `r` an accumulator operation of `n` bytes gives goes to A and the flags, and only PC changes besides. -/
theorem State.accumulate_advance {t : State} {v : Byte} {n : Nat} {r : Result8} (hop : op ≠ .cp)
    (ht : t = (s.accumulate op v).advance n) (hr : alu8 op s.a v s.cf = r) :
    t.a = r.val ∧ t.f = r.fl.toByte ∧ Frame s t [.a] [] ∧ t.sp = s.sp ∧ t.pc = s.pc + BitVec.ofNat 16 n := by
  subst ht hr
  refine ⟨s.accumulate_a op v hop, s.accumulate_f op v, (s.accumulate_frame op v).advance n,
    s.accumulate_sp op v, ?_⟩
  rw [State.advance_pc, State.nextPc, State.accumulate_pc]

/-! ## Addition -/

/-- ADD is the addition without a carry in, ADC that with the carry flag (R196 to R201). -/
theorem alu8_add_or_adc (hop : op = .add ∨ op = .adc) (a v : Byte) (c : Bool) :
    alu8 op a v c = add8 a v (decide (op = .adc) && c) := by
  obtain rfl | rfl := hop <;> rfl

theorem add8_val_toNat (a b : Byte) (cin : Bool) :
    (add8 a b cin).val.toNat = (a.toNat + b.toNat + cin.toNat) % 256 :=
  BitVec.toNat_ofNat _ 8

theorem add8_flags (a b : Byte) (cin : Bool) :
    (add8 a b cin).fl.toByte = flagByte (decide ((add8 a b cin).val = 0)) false
      (decide (a.toNat % 16 + b.toNat % 16 + cin.toNat ≥ 16)) (decide (a.toNat + b.toNat + cin.toNat ≥ 256)) := rfl

/-- Settles O39: both operations are `add8`, with the carry flag as carry in for ADC alone. -/
theorem addAndAdcSumWithCarries : Obligations.AddAndAdcSumWithCarries := by
  intro i op x h hop
  have hcode : op.code = if op = .add then 0 else 1 := by obtain rfl | rfl := hop <;> rfl
  have hcp : op ≠ .cp := by obtain rfl | rfl := hop <;> decide
  refine ⟨hcode ▸ row_alu h, fun s v cin hv hcin => ⟨_, exec_alu h s, cycleCost_alu h s, ?_⟩⟩
  subst hv hcin
  obtain ⟨ha, hf, hframe⟩ := State.accumulate_advance hcp rfl (alu8_add_or_adc hop _ _ _)
  rw [hf, ha]
  exact ⟨add8_val_toNat _ _ _, add8_flags _ _ _, hframe⟩

/-! ## Subtraction -/

/-- SUB is the subtraction without a borrow in, SBC that with the carry flag (R202 to R207). -/
theorem alu8_sub_or_sbc (hop : op = .sub ∨ op = .sbc) (a v : Byte) (c : Bool) :
    alu8 op a v c = sub8 a v (decide (op = .sbc) && c) := by
  obtain rfl | rfl := hop <;> rfl

theorem sub8_val_toNat (a b : Byte) (cin : Bool) :
    (sub8 a b cin).val.toNat = (256 + a.toNat - b.toNat - cin.toNat) % 256 := by
  have hb := b.isLt
  have hc := cin.toNat_le
  change (BitVec.ofInt 8 _).toNat = _
  rw [BitVec.toNat_ofInt]
  omega

theorem sub8_flags (a b : Byte) (cin : Bool) :
    (sub8 a b cin).fl.toByte = flagByte (decide ((sub8 a b cin).val = 0)) true
      (decide (a.toNat % 16 < b.toNat % 16 + cin.toNat)) (decide (a.toNat < b.toNat + cin.toNat)) := rfl

/-- Settles O40: both operations are `sub8`, with the carry flag as borrow in for SBC alone. -/
theorem subAndSbcDifferenceWithBorrows : Obligations.SubAndSbcDifferenceWithBorrows := by
  intro i op x h hop
  have hcode : op.code = if op = .sub then 2 else 3 := by obtain rfl | rfl := hop <;> rfl
  have hcp : op ≠ .cp := by obtain rfl | rfl := hop <;> decide
  refine ⟨hcode ▸ row_alu h, fun s v cin hv hcin => ⟨_, exec_alu h s, cycleCost_alu h s, ?_⟩⟩
  subst hv hcin
  obtain ⟨ha, hf, hframe⟩ := State.accumulate_advance hcp rfl (alu8_sub_or_sbc hop _ _ _)
  rw [hf, ha]
  exact ⟨sub8_val_toNat _ _ _, sub8_flags _ _ _, hframe⟩

/-! ## Logic -/

/-- The flags of a logic operation come from its result, with H set by AND alone (R192 to R194). -/
theorem alu8_logic_flags (hop : op = .and ∨ op = .xor ∨ op = .or) (a v : Byte) (c : Bool) :
    (alu8 op a v c).fl.toByte = flagByte (decide ((alu8 op a v c).val = 0)) false (decide (op = .and)) false := by
  obtain rfl | rfl | rfl := hop <;> rfl

theorem alu8_logic_bit (hop : op = .and ∨ op = .xor ∨ op = .or) (a v : Byte) (c : Bool) (k : Nat) :
    (alu8 op a v c).val.getLsbD k =
      (if op = .and then a.getLsbD k && v.getLsbD k
       else if op = .xor then a.getLsbD k != v.getLsbD k
       else a.getLsbD k || v.getLsbD k) := by
  obtain rfl | rfl | rfl := hop
  · exact BitVec.getLsbD_and
  · exact BitVec.getLsbD_xor
  · exact BitVec.getLsbD_or

/-- Settles O41: each operation is the bit vector operation of its name. -/
theorem logicWorksBitByBit : Obligations.LogicWorksBitByBit := by
  intro i op x h hop
  have hcode : op.code = if op = .and then 4 else if op = .xor then 5 else 6 := by
    obtain rfl | rfl | rfl := hop <;> rfl
  have hcp : op ≠ .cp := by obtain rfl | rfl | rfl := hop <;> decide
  refine ⟨hcode ▸ row_alu h, fun s v hv => ⟨_, exec_alu h s, cycleCost_alu h s, ?_⟩⟩
  subst hv
  obtain ⟨ha, hf, hframe⟩ := State.accumulate_advance hcp rfl rfl
  rw [hf, ha]
  exact ⟨fun k _ => alu8_logic_bit hop _ _ _ k, alu8_logic_flags hop _ _ _, hframe⟩

/-! ## Comparison -/

/-- The difference is 0 exactly when the operands are equal (R217). -/
theorem sub8_val_eq_zero (a b : Byte) : (sub8 a b false).val = 0 ↔ a = b := by
  have ha := a.isLt
  have hb := b.isLt
  rw [← BitVec.toNat_inj, ← BitVec.toNat_inj, sub8_val_toNat, Bool.toNat_false]
  change _ = 0 ↔ _
  omega

/-- Settles O42: CP writes the flags of `sub8` without a borrow in, and PC. -/
theorem compareSetsFlagsOnly : Obligations.CompareSetsFlagsOnly := by
  refine fun i x h => ⟨row_alu (op := .cp) h, fun s v hv => ⟨cycleCost_alu h s, ?_⟩⟩
  subst hv
  have hrule : s.accumulate .cp (x.value s) = s.setFlags (sub8 s.a (x.value s) false).fl := rfl
  have hflags := sub8_flags s.a (x.value s) false
  simp only [sub8_val_eq_zero, Bool.toNat_false, Nat.add_zero] at hflags
  rw [exec_alu h, hrule, State.setFlags_eq, hflags]
  rfl

end Sys2Proof.Machine
end

section
/-! PROOF. INC, DEC, DAA, CPL, SCF and CCF (R220 to R227). -/

namespace Sys2Proof.Machine

variable {i : Instr}

/-! ## INC and DEC -/

theorem lowNibble_toNat (v : Byte) : (v &&& 0x0F).toNat = v.toNat % 16 :=
  (BitVec.toNat_and v 0x0F).trans (Nat.and_two_pow_sub_one_eq_mod v.toNat 4)

theorem inc8_eq (old : Byte) (fl : Flags) :
    inc8 old fl = ⟨BitVec.ofNat 8 (old.toNat + 1),
      ⟨decide (old = 0xFF), false, decide (old.toNat % 16 = 15), fl.c⟩⟩ := by
  have hval : old + 1 = BitVec.ofNat 8 (old.toNat + 1) := by bv_omega
  have hz : (old + 1 == 0) = decide (old = 0xFF) := decide_eq_decide.mpr (by bv_omega)
  have hh : (old &&& 0x0F == 0x0F) = decide (old.toNat % 16 = 15) :=
    decide_eq_decide.mpr (by rw [← BitVec.toNat_inj, lowNibble_toNat]; rfl)
  rw [inc8, hz, hh, hval]

theorem dec8_eq (old : Byte) (fl : Flags) :
    dec8 old fl = ⟨BitVec.ofNat 8 (old.toNat + 255),
      ⟨decide (old = 0x01), true, decide (old.toNat % 16 = 0), fl.c⟩⟩ := by
  have hval : old - 1 = BitVec.ofNat 8 (old.toNat + 255) := by bv_omega
  have hz : (old - 1 == 0) = decide (old = 0x01) := decide_eq_decide.mpr (by bv_omega)
  have hh : (old &&& 0x0F == 0x00) = decide (old.toNat % 16 = 0) :=
    decide_eq_decide.mpr (by rw [← BitVec.toNat_inj, lowNibble_toNat]; rfl)
  rw [dec8, hz, hh, hval]

/-- A one-byte instruction that writes a location and the flags changes PC alone besides. -/
theorem State.setLoc_setFlags_advance {t : State} {dst : Loc} {r : Result8}
    (ht : t = ((s.setLoc dst r.val).setFlags r.fl).advance 1) :
    Holds s t dst r.val ∧ t.f = r.fl.toByte ∧ Frame s t (writtenRegs dst) (s.storedAt dst) ∧
    t.sp = s.sp ∧ t.pc = s.pc + 1 := by
  subst ht
  exact ⟨((s.setLoc_holds dst r.val).setFlags r.fl).advance 1, (s.setLoc dst r.val).setFlags_f r.fl,
    ((s.setLoc_frame dst r.val).setFlags r.fl).advance 1, s.setLoc_sp dst r.val, s.setLoc_nextPc dst r.val 1⟩

theorem cycleCost_inc_or_dec {dst : Loc} (h : i.form = .inc dst ∨ i.form = .dec dst) (s : State) :
    cycleCost i s = some (byLoc dst 4 12) := by
  obtain h | h := h
  all_goals
    rw [cost_of_form h]
    cases dst with
    | atHl => rfl
    | reg r => cases r <;> rfl

/-- Settles O43: the rules write the result and the flags of `inc8` and `dec8` to the location and F. -/
theorem incrementAndDecrementKeepCarry : Obligations.IncrementAndDecrementKeepCarry := by
  refine ⟨fun i dst h => ⟨row_of_form h, fun s old new hold hnew => ?inc⟩,
    fun i dst h => ⟨row_of_form h, fun s old new hold hnew => ?dec⟩⟩
  case inc =>
    subst hold hnew
    refine ⟨_, exec_of_form h s, cycleCost_inc_or_dec (.inl h) s, ?_⟩
    rw [inc8_eq]
    exact State.setLoc_setFlags_advance rfl
  case dec =>
    subst hold hnew
    refine ⟨_, exec_of_form h s, cycleCost_inc_or_dec (.inr h) s, ?_⟩
    rw [dec8_eq]
    exact State.setLoc_setFlags_advance rfl

/-! ## DAA, CPL, SCF and CCF -/

/-- Rewriting A and the flags changes PC alone besides (R224, R225). -/
theorem adjustAcc_eq (g : Byte → Flags → Result8) (s : State) :
    adjustAcc g s = .next { s with a := (g s.a s.flags).val, f := (g s.a s.flags).fl.toByte, pc := s.pc + 1 } := by
  rw [adjustAcc, State.setFlags_eq]
  rfl

/-- After an addition: the correction of the high digit leaves the low digit, so both go by the old A (R224). -/
theorem daaAfterAdd_eq (a : Byte) (fl : Flags) {high low : Nat}
    (hhigh : high = if fl.c = true ∨ a.toNat > 0x99 then 0x60 else 0)
    (hlow : low = if fl.h = true ∨ a.toNat % 16 > 9 then 0x06 else 0) :
    daaAfterAdd a fl = (BitVec.ofNat 8 (a.toNat + high + low), decide (high = 0x60)) := by
  have hdigit : (if fl.c = true ∨ a.toNat > 0x99 then a + 0x60 else a).toNat % 16 = a.toNat % 16 := by
    split
    · bv_omega
    · rfl
  simp only [daaAfterAdd, lowNibble_toNat, Bool.or_eq_true, decide_eq_true_eq, hdigit]
  subst hhigh hlow
  ext : 1
  · simp only
    split <;> split <;> bv_omega
  · simp

/-- After a subtraction, each correction goes by its flag alone (R224). -/
theorem daaAfterSub_eq (a : Byte) (fl : Flags) {high low : Nat} (hhigh : high = if fl.c = true then 0x60 else 0)
    (hlow : low = if fl.h = true then 0x06 else 0) :
    daaAfterSub a fl = (BitVec.ofNat 8 (512 + a.toNat - high - low), decide (high = 0x60)) := by
  subst hhigh hlow
  ext : 1
  · simp only [daaAfterSub]
    split <;> split <;> bv_omega
  · cases h : fl.c <;> simp [daaAfterSub, h]

/-- DAA by sums and differences of numbers (R224). -/
theorem daa8_eq (a : Byte) (fl : Flags) {high low res : Nat}
    (hhigh : high = if fl.c = true ∨ (fl.n = false ∧ a.toNat > 0x99) then 0x60 else 0)
    (hlow : low = if fl.h = true ∨ (fl.n = false ∧ a.toNat % 16 > 9) then 0x06 else 0)
    (hres : res = (if fl.n = true then 512 + a.toNat - high - low else a.toNat + high + low) % 256) :
    daa8 a fl = ⟨BitVec.ofNat 8 res, ⟨decide (res = 0), fl.n, false, decide (high = 0x60)⟩⟩ := by
  have hz (sum : Nat) : (BitVec.ofNat 8 sum == 0) = decide (sum % 256 = 0) :=
    decide_eq_decide.mpr (by bv_omega)
  have hmod (sum : Nat) : BitVec.ofNat 8 (sum % 256) = BitVec.ofNat 8 sum := by bv_omega
  subst hres
  cases hn : fl.n with
  | false =>
    have hadd := daaAfterAdd_eq a fl (high := high) (low := low)
      (by simpa [hn] using hhigh) (by simpa [hn] using hlow)
    simp only [daa8, hn, hadd, hz, hmod, Bool.false_eq_true, if_false]
  | true =>
    have hsub := daaAfterSub_eq a fl (high := high) (low := low)
      (by simpa [hn] using hhigh) (by simpa [hn] using hlow)
    simp only [daa8, hn, hsub, hz, hmod, if_true]

/-- Settles O44: the rule writes the result and the flags of `daa8`. -/
theorem decimalAdjustCorrectsByFlags : Obligations.DecimalAdjustCorrectsByFlags := by
  have hform : Instr.daa.form = .daa := rfl
  refine ⟨row_of_form hform, fun s high low res hhigh hlow hres => ⟨cost_of_form hform s, ?_⟩⟩
  rw [exec_of_form hform, formRule, adjustAcc_eq, daa8_eq s.a s.flags hhigh hlow hres]
  rfl

/-- Settles O46: each rule writes its flags from the flags there were, and CPL the complement of A. -/
theorem complementAndCarryInstructions : Obligations.ComplementAndCarryInstructions := by
  have hcpl : Instr.cpl.form = .cpl := rfl
  have hscf : Instr.scf.form = .scf := rfl
  have hccf : Instr.ccf.form = .ccf := rfl
  refine ⟨row_of_form hcpl, row_of_form hscf, row_of_form hccf, fun s => ⟨⟨?_, cost_of_form hcpl s⟩,
    ⟨?_, cost_of_form hscf s⟩, ⟨?_, cost_of_form hccf s⟩⟩⟩
  · have ha : ~~~s.a = BitVec.ofNat 8 (255 - s.a.toNat) := by bv_omega
    rw [exec_of_form hcpl, formRule, adjustAcc_eq, cpl8, ha]
    rfl
  · rw [exec_of_form hscf, formRule, State.setFlags_eq]
    rfl
  · rw [exec_of_form hccf, formRule, State.setFlags_eq]
    rfl

/-! ## Decimal arithmetic -/

/-- The byte whose two hexadecimal digits are the two decimal digits of a number. -/
def packed (n : Nat) : Nat := n / 10 * 16 + n % 10

/-- The sum of packed decimals takes the high correction when the sum reaches 100, the low one when the units carry, and
corrected it is the packed sum. -/
theorem packed_add {x y : Nat} (hx : x < 100) (hy : y < 100) :
    (packed x + packed y ≥ 256 ∨ (packed x + packed y) % 256 > 0x99 ↔ x + y ≥ 100) ∧
    (packed x % 16 + packed y % 16 ≥ 16 ∨ (packed x + packed y) % 256 % 16 > 9 ↔ x % 10 + y % 10 ≥ 10) ∧
    ((packed x + packed y) % 256 + (if x + y ≥ 100 then 0x60 else 0) +
      (if x % 10 + y % 10 ≥ 10 then 0x06 else 0)) % 256 = (x + y) % 100 / 10 * 16 + (x + y) % 10 := by
  unfold packed
  have hcarry (sum : Nat) : sum ≥ 256 ∨ sum % 256 > 0x99 ↔ sum > 0x99 := by omega
  refine ⟨(hcarry _).trans (by omega), by omega, ?_⟩
  split <;> split <;> omega

/-- The difference of packed decimals takes the high correction when it borrows, the low one when the units borrow, and
corrected it is the packed difference modulo 100. -/
theorem packed_sub {x y : Nat} (hx : x < 100) (hy : y < 100) :
    (packed x < packed y ↔ x < y) ∧ (packed x % 16 < packed y % 16 ↔ x % 10 < y % 10) ∧
    (512 + (256 + packed x - packed y) % 256 - (if x < y then 0x60 else 0) -
      (if x % 10 < y % 10 then 0x06 else 0)) % 256 = (100 + x - y) % 100 / 10 * 16 + (100 + x - y) % 10 := by
  unfold packed
  refine ⟨by omega, by omega, ?_⟩
  split <;> split <;> omega

/-- DAA in a state whose flags are known: the corrected A and the carry. -/
theorem exec_daa_of_flags {t : State} {z n h c : Bool} {high low : Nat} (hf : t.f = flagByte z n h c)
    (hhigh : high = if c = true ∨ (n = false ∧ t.a.toNat > 0x99) then 0x60 else 0)
    (hlow : low = if h = true ∨ (n = false ∧ t.a.toNat % 16 > 9) then 0x06 else 0) :
    ∃ u, exec .daa t = .next u ∧ u.cf = decide (high = 0x60) ∧
      u.a = BitVec.ofNat 8 ((if n = true then 512 + t.a.toNat - high - low else t.a.toNat + high + low) % 256) := by
  have hflags : Flags.mk t.zf t.nf t.hf t.cf = Flags.mk z n h c := by
    rw [← State.flags_eq, State.flags, hf, flagByte, Flags.ofByte_toByte]
  obtain ⟨-, rfl, rfl, rfl⟩ := Flags.mk.inj hflags
  refine ⟨_, (decimalAdjustCorrectsByFlags.2 t high low _ hhigh hlow rfl).2, ?_, rfl⟩
  exact congrArg Flags.c (Flags.ofByte_toByte ⟨_, _, _, decide (high = 0x60)⟩)

theorem packed_toNat {v : Byte} {x : Nat} (hx : x < 100) (h : v = BitVec.ofNat 8 (x / 10 * 16 + x % 10)) :
    v.toNat = packed x := by
  rw [h, BitVec.toNat_ofNat, packed]
  omega

/-- Settles O45: the corrections DAA chooses by the flags of ADD and SUB are those of `packed_add` and `packed_sub`. -/
theorem decimalAdjustMakesDecimalArithmetic : Obligations.DecimalAdjustMakesDecimalArithmetic := by
  intro s x y hx hy ha hb
  have hax := packed_toNat hx ha
  have hby := packed_toNat hy hb
  constructor
  · obtain ⟨t, ht, -, hsum, hf, -⟩ :=
      (addAndAdcSumWithCarries .addAB .add (.loc (.reg .b)) rfl (.inl rfl)).2 s s.b false rfl rfl
    obtain ⟨hhigh, hlow, hpacked⟩ := packed_add hx hy
    rw [hax, hby, Bool.toNat_false, Nat.add_zero] at hsum hf
    obtain ⟨u, hu, hcf, hres⟩ := exec_daa_of_flags (high := if x + y ≥ 100 then 0x60 else 0)
      (low := if x % 10 + y % 10 ≥ 10 then 0x06 else 0) hf (by simp [hsum, ← hhigh]) (by simp [hsum, ← hlow])
    refine ⟨t, u, ht, hu, ?_, by simp [hcf]⟩
    rw [hres, ← hpacked, hsum]
    rfl
  · obtain ⟨t, ht, -, hdiff, hf, -⟩ :=
      (subAndSbcDifferenceWithBorrows .subB .sub (.loc (.reg .b)) rfl (.inl rfl)).2 s s.b false rfl rfl
    obtain ⟨hhigh, hlow, hpacked⟩ := packed_sub hx hy
    rw [hax, hby, Bool.toNat_false] at hdiff hf
    obtain ⟨u, hu, hcf, hres⟩ := exec_daa_of_flags (high := if x < y then 0x60 else 0)
      (low := if x % 10 < y % 10 then 0x06 else 0) hf (by simp [hhigh]) (by simp [hlow])
    refine ⟨t, u, ht, hu, ?_, by simp [hcf]⟩
    rw [hres, ← hpacked, hdiff]
    rfl

end Sys2Proof.Machine
end

section
/-! PROOF. INC and DEC of a pair, and ADD HL,rp (R230 to R232). -/

namespace Sys2Proof.Machine

variable {i : Instr}

/-! ## INC and DEC of a pair -/

theorem cycleCost_incPair_or_decPair {rp : Pair} (h : i.form = .incPair rp ∨ i.form = .decPair rp) (s : State) :
    cycleCost i s = some 8 := by
  obtain h | h := h
  all_goals
    rw [cost_of_form h]
    cases rp <;> rfl

/-- A one-byte instruction that writes a pair leaves the value there, and nothing else but PC changed. -/
theorem State.setPair_advance (s : State) (rp : Pair) {v : Word} {n : Nat} (hn : v.toNat = n) :
    (((s.setPair rp v).advance 1).pair rp).toNat = n ∧ Frame s ((s.setPair rp v).advance 1) (pairRegs rp) [] ∧
    ((s.setPair rp v).advance 1).f = s.f ∧ (rp ≠ .sp → ((s.setPair rp v).advance 1).sp = s.sp) ∧
    ((s.setPair rp v).advance 1).pc = s.pc + 1 :=
  ⟨(congrArg BitVec.toNat (s.setPair_pair rp v)).trans hn, (s.setPair_frame rp v).advance 1, s.setPair_f rp v,
    s.setPair_sp_of_ne rp v, s.setPair_nextPc rp v 1⟩

/-- One less modulo 2^16 is 0xFFFF more (R231). -/
theorem Word.sub_one_toNat (v : Word) : (v - 1).toNat = (v.toNat + 0xFFFF) % 0x10000 := by bv_omega

/-- Settles O47: the rules write the pair plus or minus one, as words, and no flag. -/
theorem pairIncrementAndDecrementWrap : Obligations.PairIncrementAndDecrementWrap := by
  intro i rp up h
  cases up with
  | true =>
    exact ⟨row_of_form h, fun s => ⟨_, exec_of_form h s, cycleCost_incPair_or_decPair (.inl h) s,
      s.setPair_advance rp (BitVec.toNat_add (s.pair rp) 1)⟩⟩
  | false =>
    exact ⟨row_of_form h, fun s => ⟨_, exec_of_form h s, cycleCost_incPair_or_decPair (.inr h) s,
      s.setPair_advance rp (Word.sub_one_toNat (s.pair rp))⟩⟩

/-! ## ADD HL,rp -/

theorem cycleCost_addHl {rp : Pair} (h : i.form = .addHl rp) (s : State) : cycleCost i s = some 8 := by
  rw [cost_of_form h]
  cases rp <;> rfl

theorem add16_toNat (hl v : Word) : (add16 hl v).toNat = (hl.toNat + v.toNat) % 0x10000 :=
  BitVec.toNat_ofNat _ 16

/-- The flags of ADD HL,rp, by the sums of numbers that overflow bits 11 and 15 (R232). -/
theorem add16Flags_toByte (s : State) (hl v : Word) :
    (add16Flags hl v s.flags).toByte =
      flagByte s.zf false (decide (hl.toNat % 0x1000 + v.toNat % 0x1000 ≥ 0x1000))
        (decide (hl.toNat + v.toNat ≥ 0x10000)) := rfl

/-- Settles O48: the rule writes the sum of the two words and the flags of `add16Flags` to HL and F. -/
theorem addToHlCarriesFromBits11And15 : Obligations.AddToHlCarriesFromBits11And15 := by
  refine fun i rp h => ⟨row_of_form h, fun s v hv => ?_⟩
  subst hv
  refine ⟨_, exec_of_form h s, cycleCost_addHl h s, ?_, ?_, ((s.setPair_frame .hl _).setFlags _).advance 1, rfl, rfl⟩
  · rw [State.advance_hl, State.setFlags_hl, State.setHl_hl, add16_toNat]
  · rw [State.advance_f, State.setFlags_f, add16Flags_toByte]

end Sys2Proof.Machine
end

section
/-! PROOF. The rotates, the shifts and SWAP (R240 to R267). -/

namespace Sys2Proof.Machine

variable {i : Instr}

/-! ## The functions by arithmetic -/

/-- Bit 7 of a byte (R240, R242, R244). -/
theorem topBit_eq (v : Byte) : v.getLsbD 7 = decide (v.toNat ≥ 128) :=
  BitVec.msb_eq_decide v

/-- Bit 0 of a byte (R241, R243, R245, R246). -/
theorem lowBit_eq (v : Byte) : v.getLsbD 0 = decide (v.toNat % 2 = 1) :=
  Nat.testBit_zero v.toNat

theorem topBit_toNat (v : Byte) : (v.getLsbD 7).toNat = v.toNat / 128 := by
  have hv := v.isLt
  exact (Nat.toNat_testBit v.toNat 7).trans (by omega)

theorem lowBit_toNat (v : Byte) : (v.getLsbD 0).toNat = v.toNat % 2 :=
  (Nat.toNat_testBit v.toNat 0).trans (by rw [Nat.pow_zero, Nat.div_one])

theorem carryBit_toNat (c : Bool) : (carryBit c).toNat = c.toNat := by
  cases c <;> rfl

/-- Two parts of a byte that are shifted apart do not overlap, so joining them is a sum. -/
theorem shiftRight_or_shiftLeft (x y : Byte) {m n : Nat} (h : 8 ≤ m + n) :
    (x >>> m) ||| (y <<< n) = (x >>> m) + (y <<< n) := by
  refine (BitVec.add_eq_or_of_and_eq_zero _ _ ?_).symm
  ext k hk
  by_cases hn : k < n
  · simp [hn]
  · simp [BitVec.getLsbD_of_ge x (m + k) (by omega)]

/-- A shift left leaves bit 0 free for the bit shifted in, so joining them is a sum. -/
theorem shiftLeft_or_carryBit (v : Byte) (c : Bool) : (v <<< 1) ||| carryBit c = (v <<< 1) + carryBit c := by
  refine (BitVec.add_eq_or_of_and_eq_zero _ _ ?_).symm
  ext k hk
  cases c <;> simp +contextual [carryBit]

/-- The rotate left through a carry (R242). -/
theorem rotL_eq (v : Byte) (cin : Bool) :
    rotL v cin = (BitVec.ofNat 8 (2 * v.toNat + cin.toNat), decide (v.toNat ≥ 128)) := by
  have hcarry := carryBit_toNat cin
  have hsum : (v <<< 1) + carryBit cin = BitVec.ofNat 8 (2 * v.toNat + cin.toNat) := by bv_omega
  rw [rotL, topBit_eq, shiftLeft_or_carryBit, hsum]

/-- The rotate right through a carry (R243). -/
theorem rotR_eq (v : Byte) (cin : Bool) :
    rotR v cin = (BitVec.ofNat 8 (v.toNat / 2 + cin.toNat * 128), decide (v.toNat % 2 = 1)) := by
  have hcarry := carryBit_toNat cin
  have hsum : (v >>> 1) + (carryBit cin <<< 7) = BitVec.ofNat 8 (v.toNat / 2 + cin.toNat * 128) := by bv_omega
  rw [rotR, lowBit_eq, shiftRight_or_shiftLeft _ _ (by decide), hsum]

/-- The circular rotate left shifts in the bit it shifts out (R240). -/
theorem rotLC_eq (v : Byte) :
    rotLC v = (BitVec.ofNat 8 (2 * v.toNat + v.toNat / 128), decide (v.toNat ≥ 128)) :=
  topBit_toNat v ▸ rotL_eq v (v.getLsbD 7)

/-- The circular rotate right shifts in the bit it shifts out (R241). -/
theorem rotRC_eq (v : Byte) :
    rotRC v = (BitVec.ofNat 8 (v.toNat / 2 + v.toNat % 2 * 128), decide (v.toNat % 2 = 1)) :=
  lowBit_toNat v ▸ rotR_eq v (v.getLsbD 0)

/-- A shift left shifts in a 0 (R244). -/
theorem shL_eq (v : Byte) : shL v = (BitVec.ofNat 8 (2 * v.toNat), decide (v.toNat ≥ 128)) := by
  have h : shL v = rotL v false := by simp [shL, rotL, carryBit]
  rw [h, rotL_eq]
  rfl

/-- A logical shift right shifts in a 0 (R246). -/
theorem shRL_eq (v : Byte) : shRL v = (BitVec.ofNat 8 (v.toNat / 2), decide (v.toNat % 2 = 1)) := by
  have h : shRL v = rotR v false := by simp [shRL, rotR, carryBit]
  rw [h, rotR_eq]
  simp

/-- The mask of bit 7 keeps it in its place (R245). -/
theorem signBit_eq (v : Byte) : v &&& (0x80 : Byte) = carryBit (v.getLsbD 7) <<< 7 := by
  refine (BitVec.and_twoPow v 7).trans ?_
  cases v.getLsbD 7 <;> rfl

/-- An arithmetic shift right shifts in bit 7 (R245). -/
theorem shRA_eq (v : Byte) :
    shRA v = (BitVec.ofNat 8 (v.toNat / 2 + v.toNat / 128 * 128), decide (v.toNat % 2 = 1)) := by
  have h : shRA v = rotR v (v.getLsbD 7) := by rw [shRA, signBit_eq, rotR]
  rw [h, rotR_eq, topBit_toNat]

/-- The nibbles of a byte change places (R247). -/
theorem swapNibbles_eq (v : Byte) :
    swapNibbles v = (BitVec.ofNat 8 (v.toNat % 16 * 16 + v.toNat / 16), false) := by
  have hlow := lowNibble_toNat v
  have hsum : (v >>> 4) + ((v &&& 0x0F) <<< 4) = BitVec.ofNat 8 (v.toNat % 16 * 16 + v.toNat / 16) := by bv_omega
  rw [swapNibbles, BitVec.or_comm, shiftRight_or_shiftLeft _ _ (by decide), hsum]

/-! ## The rotates of A -/

/-- An accumulator rotate writes A, the flags with C alone from the bit shifted out, and PC (R248 to R251). -/
theorem rotateAcc_eq (r : Byte × Bool) (s : State) :
    rotateAcc r s = .next { s with a := r.1, f := flagByte false false false r.2, pc := s.pc + 1 } := by
  rw [rotateAcc, State.setFlags_eq]
  rfl

/-- Settles O49: each rule writes the rotated A and the bit shifted out. -/
theorem accumulatorRotatesClearZ : Obligations.AccumulatorRotatesClearZ := by
  have hrlca : Instr.rlca.form = .rlca := rfl
  have hrrca : Instr.rrca.form = .rrca := rfl
  have hrla : Instr.rla.form = .rla := rfl
  have hrra : Instr.rra.form = .rra := rfl
  refine ⟨row_of_form hrlca, row_of_form hrrca, row_of_form hrla, row_of_form hrra, fun s a ha => ?_⟩
  subst ha
  refine ⟨⟨?_, cost_of_form hrlca s⟩, ⟨?_, cost_of_form hrrca s⟩, ⟨?_, cost_of_form hrla s⟩,
    ⟨?_, cost_of_form hrra s⟩⟩
  · rw [exec_of_form hrlca, formRule, rotateAcc_eq, rotLC_eq]
  · rw [exec_of_form hrrca, formRule, rotateAcc_eq, rotRC_eq]
  · rw [exec_of_form hrla, formRule, rotateAcc_eq, rotL_eq, State.flags_eq]
  · rw [exec_of_form hrra, formRule, rotateAcc_eq, rotR_eq, State.flags_eq]

/-! ## The rotates and shifts of a location -/

theorem cycleCost_rot {op : RotOp} {dst : Loc} (h : i.form = .rot op dst) (s : State) :
    cycleCost i s = some (byLoc dst 8 16) := by
  rw [cost_of_form h]
  cases dst with
  | atHl => cases op <;> rfl
  | reg r => cases op <;> cases r <;> rfl

/-- A rotate or shift of a location writes the result there and the flags from the result and the bit shifted out, and
only PC changes besides (R252 to R267). -/
theorem exec_rot {s : State} {op : RotOp} {dst : Loc} {new : Byte} {out : Bool} (h : i.form = .rot op dst)
    (hr : rotate8 op (s.loc dst) s.cf = (new, out)) :
    ∃ t, exec i s = .next t ∧ cycleCost i s = some (byLoc dst 8 16) ∧ Holds s t dst new ∧
      t.f = flagByte (decide (new = 0)) false false out ∧ Frame s t (writtenRegs dst) (s.storedAt dst) ∧
      t.sp = s.sp ∧ t.pc = s.pc + 2 := by
  have hexec : exec i s = .next (((s.setLoc dst new).setFlags (rotFlags (new, out))).advance 2) := by
    rw [exec_of_form h, formRule, rotLoc, State.flags_eq, hr]
    rfl
  exact ⟨_, hexec, cycleCost_rot h s, ((s.setLoc_holds dst new).setFlags _).advance 2,
    (s.setLoc dst new).setFlags_f _, ((s.setLoc_frame dst new).setFlags _).advance 2, s.setLoc_sp dst new,
    s.setLoc_nextPc dst new 2⟩

/-- Settles O50: the function of each operation by arithmetic, with the carry flag shifted in by RL and RR. -/
theorem extendedRotatesSetZ : Obligations.ExtendedRotatesSetZ := by
  intro i op dst h hop
  obtain rfl | rfl | rfl | rfl := hop
  all_goals
    refine ⟨row_of_form h, fun s v new hv hnew => exec_rot h ?_⟩
    subst hv hnew
  · exact rotLC_eq _
  · exact rotRC_eq _
  · exact rotL_eq _ _
  · exact rotR_eq _ _

/-- Settles O51: the function of each operation by arithmetic. -/
theorem shiftsAndSwapSetZ : Obligations.ShiftsAndSwapSetZ := by
  intro i op dst h hop
  obtain rfl | rfl | rfl | rfl := hop
  all_goals
    refine ⟨row_of_form h, fun s v new hv hnew => exec_rot h ?_⟩
    subst hv hnew
  · exact shL_eq _
  · exact shRA_eq _
  · exact swapNibbles_eq _
  · exact shRL_eq _

end Sys2Proof.Machine
end

section
/-! PROOF. BIT, RES and SET (R270 to R275). -/

namespace Sys2Proof.Machine

variable {i : Instr} {b : BitVec 3}

/-! ## The cost of an extended instruction, from its fields -/

theorem fieldX_fieldsXYZ : ∀ (x : BitVec 2) (y z : BitVec 3), fieldX (fieldsXYZ x y z) = x := by decide

theorem fieldZ_fieldsXYZ : ∀ (x : BitVec 2) (y z : BitVec 3), fieldZ (fieldsXYZ x y z) = z := by decide

/-- The operand field 6 is that of the byte at HL (R82). -/
theorem Loc.code_eq_six {l : Loc} : l.code = 6 ↔ l = .atHl := by
  cases l with
  | atHl => decide
  | reg r => cases r <;> decide

/-- An operand at HL costs 16 cycles, but 12 in the rows of BIT (x = 1), which only read it (R97). -/
theorem extCycles_fieldsXYZ (x : BitVec 2) (y : BitVec 3) (l : Loc) :
    extCycles (fieldsXYZ x y l.code) = byLoc l 8 (if x = 1 then 12 else 16) := by
  simp only [extCycles, fieldX_fieldsXYZ, fieldZ_fieldsXYZ, ne_eq, Loc.code_eq_six]
  cases l <;> rfl

/-! ## BIT -/

theorem cycleCost_bit {src : Loc} (h : i.form = .bit b src) (s : State) : cycleCost i s = some (byLoc src 8 12) :=
  (cost_of_form h s).trans (congrArg some (extCycles_fieldsXYZ 1 b src))

/-- Z is the complement of the tested bit, as a binary digit of the number (R270). -/
theorem bitFlags_toByte (b : BitVec 3) (v : Byte) (fl : Flags) :
    (bitFlags b v fl).toByte = flagByte (decide (v.toNat / 2 ^ b.toNat % 2 = 0)) false true fl.c := by
  have hz : (!v.getLsbD b.toNat) = decide (v.toNat / 2 ^ b.toNat % 2 = 0) := by
    rw [BitVec.getLsbD, Nat.testBit_eq_decide_div_mod_eq, ← decide_not]
    exact decide_eq_decide.mpr Nat.mod_two_ne_one
  rw [bitFlags, hz, flagByte]

/-- Settles O52: the rule writes the flags of `bitFlags`, and PC. -/
theorem bitTestWritesFlagsOnly : Obligations.BitTestWritesFlagsOnly := by
  refine fun i b src h => ⟨row_of_form h, fun s => ⟨?_, cycleCost_bit h s⟩⟩
  rw [exec_of_form h, formRule, bitLoc, State.setFlags_eq, bitFlags_toByte]
  rfl

/-! ## RES and SET -/

/-- A byte with bit `b` forced to 1 or to 0: the function of SET and that of RES in one (R272, R274). -/
def forceBit (one : Bool) (b : BitVec 3) (v : Byte) : Byte := if one then setBit b v else resetBit b v

/-- A 1 shifted left by `b` has bit `b` alone. -/
theorem bitMask_getLsbD (b : BitVec 3) (k : Nat) : ((1 : Byte) <<< b.toNat).getLsbD k = decide (k = b.toNat) := by
  have hmask : (1 : Byte) <<< b.toNat = BitVec.twoPow 8 b.toNat := rfl
  rw [hmask, BitVec.getLsbD_twoPow, decide_eq_true b.isLt, Bool.true_and, decide_eq_decide, eq_comm]

theorem forceBit_getLsbD (one : Bool) (b : BitVec 3) (v : Byte) {k : Nat} (hk : k < 8) :
    (forceBit one b v).getLsbD k = if k = b.toNat then one else v.getLsbD k := by
  cases one with
  | true =>
    change (v ||| _).getLsbD k = _
    rw [BitVec.getLsbD_or, bitMask_getLsbD]
    by_cases h : k = b.toNat <;> simp [h]
  | false =>
    change (v &&& ~~~_).getLsbD k = _
    rw [BitVec.getLsbD_and, BitVec.getLsbD_not, bitMask_getLsbD]
    by_cases h : k = b.toNat <;> simp [h, hk]

section
variable {dst : Loc} {one : Bool} (h : i.form = if one then .set b dst else .res b dst)
include h

theorem row_forceBit : Row i [0xCB, fieldsXYZ (if one then 3 else 2) b dst.code] := by
  cases one <;> exact row_of_form h

theorem exec_forceBit (s : State) :
    exec i s = .next ((s.setLoc dst (forceBit one b (s.loc dst))).advance 2) := by
  cases one <;> exact exec_of_form h s

theorem cycleCost_forceBit (s : State) : cycleCost i s = some (byLoc dst 8 16) := by
  cases one <;> exact (cost_of_form h s).trans (congrArg some (extCycles_fieldsXYZ _ b dst))

end

/-- Settles O53: both rules write the byte with its bit forced to the location, and PC. -/
theorem resetAndSetForceOneBit : Obligations.ResetAndSetForceOneBit :=
  fun _ b dst one h => ⟨row_forceBit h, fun s => ⟨forceBit one b (s.loc dst), _,
    fun _ hk => forceBit_getLsbD one b _ hk, exec_forceBit h s, cycleCost_forceBit h s, s.setLoc_advance dst _ 2⟩⟩

end Sys2Proof.Machine
end

section
/-! PROOF. The control transfers (R280 to R291), and RETI after an interrupt entry (R330, R332). -/

namespace Sys2Proof.Machine

open Sys2Proof.Laws

variable {i : Instr} {cc : Cond} {a16 : Word} {e8 : Byte}

/-! ## What a transfer leaves, and its cost -/

/-- A row whose form has no failure leaves its form's effect with PC at `State.pcAfter`; a form other than the illegal ones,
the escape and LD (0xFFFF),SP shows it by its constructor (R127, R128, R133). -/
theorem exec_of_total_form {f : Form} (h : i.form = f) (s : State) (hill : ∀ op, f ≠ .illegal op := by nofun)
    (hesc : f ≠ .escape := by nofun) (hsp : f ≠ .ldAbsSp 0xFFFF := by nofun) :
    exec i s = .next ((s.effect f).jump (s.pcAfter f)) :=
  (exec_of_form h s).trans (formRule_eq s hill hesc hsp)

/-- A conditional transfer costs the first number of its opcode's cell where its condition holds, and else the second
(R129). -/
theorem cost_of_condition {f : Form} {op : Byte} {operands : List Byte} {taken notTaken : Nat} (h : i.form = f)
    (hcc : formCond f = some cc) (hb : f.bytes = op :: operands)
    (hop : op ≠ Config.escapeByte ∧ baseCycles op = some (taken, notTaken)) (s : State) :
    cycleCost i s = some (if s.holdsCond cc then taken else notTaken) := by
  obtain ⟨hne, hcell⟩ := hop
  rw [cost_of_form h, hcc, hb, bytesCost, if_neg hne, hcell, ← State.cond_eq]
  rfl

theorem cycleCost_jpIf (h : i.form = .jpIf cc a16) (s : State) :
    cycleCost i s = some (if s.holdsCond cc then 16 else 12) :=
  cost_of_condition h rfl rfl (by cases cc <;> decide) s

theorem cycleCost_jrIf (h : i.form = .jrIf cc e8) (s : State) :
    cycleCost i s = some (if s.holdsCond cc then 12 else 8) :=
  cost_of_condition h rfl rfl (by cases cc <;> decide) s

theorem cycleCost_callIf (h : i.form = .callIf cc a16) (s : State) :
    cycleCost i s = some (if s.holdsCond cc then 24 else 12) :=
  cost_of_condition h rfl rfl (by cases cc <;> decide) s

theorem cycleCost_retIf (h : i.form = .retIf cc) (s : State) :
    cycleCost i s = some (if s.holdsCond cc then 20 else 8) :=
  cost_of_condition h rfl rfl (by cases cc <;> decide) s

/-! ## JP and JR -/

/-- Settles O54: a jump has no effect but PC. -/
theorem jumpsGoExactlyToTheTarget : Obligations.JumpsGoExactlyToTheTarget := by
  refine ⟨fun a16 => ?_, fun i cc a16 h => ?_, ?_⟩
  · have hform : (Instr.jpA16 a16).form = .jp a16 := rfl
    exact ⟨row_of_form hform, fun s => ⟨exec_of_total_form hform s, (cost_of_form hform s).trans rfl⟩⟩
  · exact ⟨row_of_form h, fun s => ⟨exec_of_total_form h s, cycleCost_jpIf h s⟩⟩
  · have hform : Instr.jpHl.form = .jpHl := rfl
    exact ⟨row_of_form hform, fun s => ⟨exec_of_total_form hform s, (cost_of_form hform s).trans rfl⟩⟩

/-- Settles O55: a relative jump has no effect but PC, and `State.pcAfter` has its target as a sum of integers. -/
theorem relativeJumpsAddTheDisplacement : Obligations.RelativeJumpsAddTheDisplacement := by
  intro e8 s target htarget
  subst htarget
  have hform : (Instr.jrE8 e8).form = .jr e8 := rfl
  exact ⟨⟨row_of_form hform, exec_of_total_form hform s, (cost_of_form hform s).trans rfl⟩,
    fun i cc h => ⟨row_of_form h, exec_of_total_form h s, cycleCost_jrIf h s⟩⟩

/-! ## CALL and RST -/

/-- A call pushes the address after it and goes to its target, and changes nothing else (R286, R291). -/
theorem State.callTo_spec (s : State) (len : Nat) (target : Word) :
    Pushed s (s.callTo len target) (s.nextPc len) ∧ Frame s (s.callTo len target) [] [s.sp - 1, s.sp - 2] ∧
      (s.callTo len target).f = s.f ∧ (s.callTo len target).pc = target :=
  ⟨(s.push16_pushed _).jump target, (s.push16_frame _).jump target, rfl, rfl⟩

theorem exec_callIf_taken (h : i.form = .callIf cc a16) {s : State} (hc : s.holdsCond cc = true) :
    exec i s = .next (s.callTo 3 a16) := by
  rw [exec_of_form h, formRule, callIf, State.cond_eq, if_pos hc]

theorem exec_callIf_untaken (h : i.form = .callIf cc a16) {s : State} (hc : s.holdsCond cc = false) :
    exec i s = .next (s.advance 3) := by
  rw [exec_of_form h, formRule, callIf, State.cond_eq, hc, retire_eq, if_neg Bool.false_ne_true]

/-- Settles O56: a taken call is `State.callTo` with the length 3, and an untaken one only advances PC. -/
theorem callPushesTheReturnAddress : Obligations.CallPushesTheReturnAddress := by
  refine ⟨fun a16 => ?_, fun i cc a16 h => ⟨row_of_form h, fun s => ?_⟩⟩
  · have hform : (Instr.callA16 a16).form = .call a16 := rfl
    exact ⟨row_of_form hform, fun s =>
      ⟨_, exec_of_form hform s, (cost_of_form hform s).trans rfl, s.callTo_spec 3 a16⟩⟩
  · rw [cycleCost_callIf h]
    refine ⟨fun hc => ⟨exec_callIf_untaken h hc, ?_⟩, fun hc => ⟨_, exec_callIf_taken h hc, ?_, s.callTo_spec 3 a16⟩⟩
    all_goals rw [hc]; rfl

theorem cycleCost_rst {y : BitVec 3} (h : i.form = .rst y) (s : State) : cycleCost i s = some 16 := by
  have hcell : ∀ y, fieldsXYZ 3 y 7 ≠ Config.escapeByte ∧ baseCycles (fieldsXYZ 3 y 7) = some (16, 16) := by decide
  obtain ⟨hne, hcost⟩ := hcell y
  rw [cycleCost_base (bytes_of_form h).1 hne hcost, ite_self]

/-- Settles O58: RST is `State.callTo` with the length 1 and eight times the field as its target. -/
theorem restartCallsPageZero : Obligations.RestartCallsPageZero :=
  fun _ y h => ⟨row_of_form h, fun s =>
    ⟨_, exec_of_total_form h s, cycleCost_rst h s, s.callTo_spec 1 (BitVec.ofNat 16 (8 * y.toNat))⟩⟩

/-! ## RET and RETI -/

theorem exec_retIf_taken (h : i.form = .retIf cc) {s : State} (hc : s.holdsCond cc = true) :
    exec i s = .next s.returnTo := by
  rw [exec_of_form h, formRule, retIf, State.cond_eq, if_pos hc]

theorem exec_retIf_untaken (h : i.form = .retIf cc) {s : State} (hc : s.holdsCond cc = false) :
    exec i s = .next (s.advance 1) := by
  rw [exec_of_form h, formRule, retIf, State.cond_eq, hc, retire_eq, if_neg Bool.false_ne_true]

/-- RETI leaves PC at the word on top of the stack, SP two higher and IME set (R290). -/
theorem exec_reti (s : State) :
    exec .reti s = .next { s with pc := s.stackTop, sp := s.sp + 2, ime := true } :=
  exec_of_form (rfl : Instr.reti.form = .reti) s

/-- Settles O57: a return drops the word on top of the stack and goes to it. -/
theorem returnsPopPc : Obligations.ReturnsPopPc := by
  have hret : Instr.ret.form = .ret := rfl
  have hreti : Instr.reti.form = .reti := rfl
  refine ⟨row_of_form hret, row_of_form hreti, fun s top htop => ?_, fun i cc h => ⟨row_of_form h, fun s => ?_⟩⟩
  · subst htop
    exact ⟨⟨exec_of_form hret s, (cost_of_form hret s).trans rfl⟩, exec_reti s, (cost_of_form hreti s).trans rfl⟩
  · rw [cycleCost_retIf h]
    refine ⟨fun hc => ⟨exec_retIf_untaken h hc, ?_⟩, fun hc => ⟨exec_retIf_taken h hc, ?_⟩⟩
    all_goals rw [hc]; rfl

/-- An interrupt entry pushes PC (R330). -/
theorem State.enterInterrupt_pushed (s : State) (vector : Word) : Pushed s (s.enterInterrupt vector) s.pc :=
  (s.push16_pushed s.pc).jump vector

/-- A word pushed is the word on top of the stack, for any state whose SP and two top bytes are as the push left them
(R170, R171). -/
theorem Pushed.stackTop_of_agree {s u t : State} {v : Word} (h : Pushed s u v) (hwf : s.mem.wf = true)
    (hsp : t.sp = u.sp) (hhi : t.read (s.sp - 1) = u.read (s.sp - 1)) (hlo : t.read (s.sp - 2) = u.read (s.sp - 2)) :
    t.stackTop = v ∧ t.sp + 2 = s.sp := by
  obtain ⟨husp, hword⟩ := h
  have htsp : t.sp = s.sp - 2 := hsp.trans husp
  have hnext : s.sp - 2 + 1 = s.sp - 1 := by bv_omega
  constructor
  · rw [State.stackTop, htsp, hnext, hhi, hlo, hword hwf]
  · rw [htsp, BitVec.sub_add_cancel]

/-- Settles O22: the word RETI pops is the PC that the entry pushed. -/
theorem retiUndoesInterruptEntry : Obligations.RetiUndoesInterruptEntry := by
  intro s t vector hwf hsp hhi hlo
  obtain ⟨hpc, hspBack⟩ := (s.enterInterrupt_pushed vector).stackTop_of_agree hwf hsp hhi hlo
  rw [exec_reti, hpc, hspBack]

end Sys2Proof.Machine
end

section
/-! PROOF. The executable end of a run is the first halt left alone (R340, R368; log entry 25). -/

namespace Sys2Proof.Machine

variable {m n : MachineInstance} {action : HostAction} {history rest : List HostAction}

/-- A halt that is left alone and comes first in a history is what `endOfRun` looks for at its head (R368). -/
theorem haltLeftAlone_head_iff :
    (action = .step ∧ HaltLeftAlone m [] rest n) ↔
      n = (m.act action).1 ∧ (m.haltsBy action && (m.act action).1.leftAlone rest) = true := by
  rw [Bool.and_eq_true, m.haltsBy_iff]
  constructor
  · rintro ⟨rfl, ⟨cost, hact⟩, hhalted, halone⟩
    rw [MachineInstance.after_nil] at hact
    rw [hact]
    exact ⟨rfl, ⟨rfl, ⟨cost, rfl⟩, hhalted⟩, halone⟩
  · rintro ⟨rfl, ⟨rfl, hcost, hhalted⟩, halone⟩
    exact ⟨rfl, hcost, hhalted, halone⟩

theorem MachineInstance.endOfRun_cons (m : MachineInstance) (action : HostAction) (history : List HostAction) :
    m.endOfRun (action :: history) =
      if m.haltsBy action && (m.act action).1.leftAlone history then some (m.act action).1
      else (m.act action).1.endOfRun history := rfl

theorem not_endsRun_nil : ¬ EndsRun m [] n := by
  rintro ⟨before, rest, heq, _⟩
  exact List.append_ne_nil_of_right_ne_nil before (List.cons_ne_nil .step rest) heq.symm

/-- A halt left alone at the head of a history is the end, since none comes before it (R368). -/
theorem endsRun_cons_of_halt (h : (m.haltsBy action && (m.act action).1.leftAlone history) = true) :
    EndsRun m (action :: history) n ↔ n = (m.act action).1 := by
  constructor
  · rintro ⟨before, rest, heq, hhalt, hfirst⟩
    obtain ⟨rfl, hhead⟩ := haltLeftAlone_head_iff.mpr ⟨rfl, h⟩
    obtain rfl := List.eq_nil_of_length_eq_zero (Nat.le_zero.mp (hfirst [] history _ rfl hhead))
    obtain rfl := (List.cons.inj heq).2
    exact (haltLeftAlone_head_iff.mp ⟨rfl, hhalt⟩).1
  · intro hn
    obtain ⟨rfl, hhead⟩ := haltLeftAlone_head_iff.mpr ⟨hn, h⟩
    exact ⟨[], history, rfl, hhead, fun _ _ _ _ _ => Nat.zero_le _⟩

/-- Without a halt left alone at its head, a history ends where the rest of it does (R368). -/
theorem endsRun_cons_of_no_halt (h : ¬ (m.haltsBy action && (m.act action).1.leftAlone history) = true) :
    EndsRun m (action :: history) n ↔ EndsRun (m.act action).1 history n := by
  have hnot {rest n'} (heq : action :: history = [] ++ .step :: rest) : ¬ HaltLeftAlone m [] rest n' := by
    obtain ⟨rfl, rfl⟩ := List.cons.inj heq
    exact fun hhalt => h (haltLeftAlone_head_iff.mp ⟨rfl, hhalt⟩).2
  constructor
  · rintro ⟨before, rest, heq, hhalt, hfirst⟩
    cases before with
    | nil => exact absurd hhalt (hnot heq)
    | cons _ before =>
      obtain ⟨rfl, htail⟩ := List.cons.inj heq
      refine ⟨before, rest, htail, hhalt, fun before' rest' n' heq' hhalt' => ?_⟩
      exact Nat.le_of_succ_le_succ (hfirst (action :: before') rest' n' (congrArg (action :: ·) heq') hhalt')
  · rintro ⟨before, rest, rfl, hhalt, hfirst⟩
    refine ⟨action :: before, rest, rfl, hhalt, fun before' rest' n' heq' hhalt' => ?_⟩
    cases before' with
    | nil => exact absurd hhalt' (hnot heq')
    | cons _ before' =>
      obtain ⟨rfl, htail⟩ := List.cons.inj heq'
      exact Nat.succ_le_succ (hfirst before' rest' n' htail hhalt')

/-- `endOfRun` follows the definition of the end action by action. -/
theorem endOfRun_eq_some_iff : m.endOfRun history = some n ↔ EndsRun m history n := by
  induction history generalizing m with
  | nil => exact iff_of_false nofun not_endsRun_nil
  | cons action history ih =>
    rw [m.endOfRun_cons]
    split
    case isTrue h => rw [endsRun_cons_of_halt h, Option.some.injEq, eq_comm]
    case isFalse h => rw [endsRun_cons_of_no_halt h, ih]

/-- Settles O59: by the induction over the history in `endOfRun_eq_some_iff`, and a history with a halt left alone has a
first one. -/
theorem endOfRunIsTheFirstHaltLeftAlone : Obligations.EndOfRunIsTheFirstHaltLeftAlone := by
  refine ⟨fun m history n => endOfRun_eq_some_iff, fun m history => ?_⟩
  rw [Option.eq_none_iff_forall_ne_some]
  constructor
  · rintro hnone before rest n rfl hhalt
    obtain ⟨n', hends⟩ := hhalt.exists_endsRun
    exact hnone n' (endOfRun_eq_some_iff.mpr hends)
  · intro hno n hsome
    obtain ⟨before, rest, heq, hhalt, _⟩ := endOfRun_eq_some_iff.mp hsome
    exact hno before rest n heq hhalt

end Sys2Proof.Machine
end

section
/-! PROOF. Interrupt entry and waking (R328, R330, R331). -/

namespace Sys2Proof.Machine

/-- An entry changes no register, no flag and no byte but the two it pushes (R330). -/
theorem State.enterInterrupt_keeps (s : State) (vector : Word) :
    KeepsRegs s (s.enterInterrupt vector) [] ∧ (s.enterInterrupt vector).f = s.f ∧
      KeepsMem s (s.enterInterrupt vector) [s.sp - 1, s.sp - 2] := by
  obtain ⟨hregs, hmem, _⟩ := (State.push16_frame { s with ime := false, mode := .running } s.pc).jump vector
  refine ⟨fun r hr => (hregs r hr).trans ?_, rfl, hmem⟩
  cases r <;> rfl

/-- Settles O21: an entry is a push of PC and a jump on a core made Running with IME 0, and the vectors are R59's. -/
theorem interruptEntryPushesPcAndWakes : Obligations.InterruptEntryPushesPcAndWakes := by
  refine ⟨fun m irq hime => ?_, fun m irq hime => m.doEnter_of_not_ime hime, fun _ => rfl⟩
  obtain ⟨hregs, hf, hmem⟩ := m.state.enterInterrupt_keeps irq.vector
  refine ⟨_, m.doEnter_of_ime hime, rfl, rfl, m.state.enterInterrupt_pushed irq.vector, hregs, hf, hmem, ?_⟩
  cases irq <;> rfl

end Sys2Proof.Machine
end

section
/-! PROOF. NOP, HALT, STOP, DI and EI (R300 to R304). -/

namespace Sys2Proof.Machine

/-- Settles O24: NOP has no effect but PC. -/
theorem nopOnlyAdvancesPc : Obligations.NopOnlyAdvancesPc := by
  have hform : Instr.nop.form = .nop := rfl
  exact ⟨row_of_form hform, fun s => ⟨exec_of_total_form hform s, cost_of_form hform s⟩⟩

/-- Settles O25: the effect of each rule is the mode it sets, and PC goes past one byte or two. -/
theorem haltAndStopSetTheMode : Obligations.HaltAndStopSetTheMode := by
  have hhalt : Instr.halt.form = .halt := rfl
  have hstop (x : Byte) : (Instr.stop x).form = .stop x := rfl
  exact ⟨row_of_form hhalt, fun x => row_of_form (hstop x), fun s => ⟨exec_halt s, cost_of_form hhalt s,
    fun x => ⟨exec_of_total_form (hstop x) s, cost_of_form (hstop x) s⟩⟩⟩

/-- Settles O26: the effect of each rule is the value of IME, written in the instruction's own step. -/
theorem diAndEiWriteImeAtOnce : Obligations.DiAndEiWriteImeAtOnce := by
  have hdi : Instr.di.form = .di := rfl
  have hei : Instr.ei.form = .ei := rfl
  exact ⟨row_of_form hdi, row_of_form hei, fun s => ⟨exec_of_total_form hdi s, cost_of_form hdi s,
    exec_of_total_form hei s, cost_of_form hei s⟩⟩

end Sys2Proof.Machine
end

section
/-! PROOF. The state at power-on (R360 to R365). -/

namespace Sys2Proof.Machine

theorem State.reset_reg (r : Reg8) : State.reset.reg r = 0 := by
  cases r <;> rfl

/-- Memory at power-on lists no byte, so every address reads as the power-on byte (R363). -/
theorem State.reset_read (a : Word) : State.reset.read a = 0 := Memory.read_nil a.toNat

/-- Settles O14: the empty memory list is canonical, and F is 0. -/
theorem resetMeetsTheInvariant : Obligations.ResetMeetsTheInvariant := by
  have hmem : State.reset.mem.wf = true := rfl
  have hf : State.reset.f &&& 0x0F = 0 := rfl
  exact ⟨hmem, hf⟩

/-- Settles O15: SP, PC, F, the mode and IME are fields of the power-on state. -/
theorem powerOnIsAllZeroAndRunning : Obligations.PowerOnIsAllZeroAndRunning :=
  ⟨State.reset_reg, rfl, rfl, rfl, State.reset_read, rfl, rfl⟩

end Sys2Proof.Machine
end
